-- ==== Sys2Proof/Word.lean ====
section
/-! DEFINITION. The word types of the engine (00_scope.md R10, R11): widths are the spec's, every value is unsigned. -/

namespace Sys2Proof

/-- A level of the pin: `true` is 1, high; `false` is 0, low (R11). -/
abbrev Level := Bool

/-- A 32-bit word: `CMDW`, `DLY`, `CI`, `ERRINFO`, `STATUS` and a word of the colour port (R10). -/
abbrev Word := BitVec 32

/-- A byte of a colour (R10, `BYTE`). -/
abbrev Byte := BitVec 8

/-- A colour: red in bits 23:16, green in 15:8, blue in 7:0 (30_encoding.md R91). -/
abbrev Colour := BitVec 24

end Sys2Proof
end

