-- ==== Sys2Proof/Config.lean ====
section
/-! DEFINITION. What is fixed for this hardware (00_scope.md R8, R9) and the values no rule of the spec fixes: the pin's
answers, the stall ticks and the clock frequency (10_state.md R39). -/

namespace Sys2Proof

/-- What the pin answers to a `PinSet`, and what a `WRITE` answers to its host: `Ok`, or `Err(e)` with the pin's own
32-bit value, never interpreted (20_memory.md R63, 43_host_operations.md R196, 10_state.md R37). -/
inductive Answer where
  | ok
  | err (e : Word)
deriving DecidableEq, Repr, Inhabited

namespace Config

/-- `PHASE_NS`: the nominal length of one of a bit's three phases (R8). -/
def phaseNs : Nat := 333

/-- `BIT_PHASES` (R8). -/
def bitPhases : Nat := 3

/-- `COLOR_BITS` (R8). -/
def colorBits : Nat := 24

/-- `BYTES_PER_COLOR` (R8). -/
def bytesPerColor : Nat := 3

/-- `LATCH_NS`: a build-time constant; no operation changes it (R8). -/
def latchNs : Nat := 6000

/-- `CAL_DEFAULT`, the "default magic number" (R9). -/
def calDefault : Nat := 50

/-- `CPL`: CPU cycles for one iteration of the delay loop; legal values 4, 5, 6, and 4 for this hardware (R9). -/
def cpl : Nat := 4

/-- `F_MHZ`: the host clock in MHz, an open parameter that no engine rule reads (R9; log 18). It has no value here. -/
opaque fMhz : Nat

/-- FREE VALUE (log 4): what a fallible pin answers to the `k`-th `PinSet` since the start, where no answer is written
down in the state (10_state.md R39, D30). -/
opaque freePinAnswer : Nat → Answer

/-- FREE VALUE (log 5): how many stall ticks the environment inserts at its `k`-th choice, where none is written down in
the state (42_frame_sequencer.md R175, D10). A number, so always finite: the spec's weak fairness. -/
opaque freeStall : Nat → Nat

end Config

end Sys2Proof
end

