-- ==== Sys2Proof/Syntax.lean ====
section
/-! DEFINITION. The operations of the engine: one constructor for each row of the opcode table (30_encoding.md R99). -/

namespace Sys2Proof

/-- The formats that carry an operation (30_encoding.md R90). -/
inductive Format where
  /-- the host command word, 32 bits (R96) -/
  | H
  /-- the pin command, 1 bit (R95) -/
  | P
  /-- the operand of the internal `DELAY`, 32 bits (R97) -/
  | U
  /-- the symbol of one bit, three phases `1b0`, the first on the left (R93) -/
  | S
  /-- a byte, eight bits, the first sent on the left (R92) -/
  | B
  /-- the colour word, 24 bits (R91) -/
  | C
  /-- the latch that ends a frame: one low period (R94, R166) -/
  | F
deriving DecidableEq, Repr

/-- How many bits the opcode table gives a format. -/
def Format.width : Format → Nat
  | .H => 32
  | .P => 1
  | .U => 32
  | .S => 3
  | .B => 8
  | .C => 24
  | .F => 1

/-- The thirteen operations. Counts are natural numbers with the bound of their field (`WellFormed.lean`); bit patterns
are bit vectors. -/
inductive Instr where
  /-- `NEW_ITER n`: construct with the iteration count `n` (43_host_operations.md R190) -/
  | newIter (n : Nat)
  /-- `NEW_MHZ f`: construct from a clock frequency (R191) -/
  | newMhz (f : Nat)
  /-- `NEW_DEFAULT`: the pseudo-operation `NEW_ITER 50` (R194) -/
  | newDefault
  /-- `WRITE`: transmit the colour sequence on the colour stream (R195) -/
  | write
  /-- `DRIVE_HIGH` (41_bit_encoder.md R140) -/
  | driveHigh
  /-- `DRIVE_LOW` (R141) -/
  | driveLow
  /-- `DELAY n` (40_delay_primitive.md R120) -/
  | delay (n : Nat)
  /-- `EMIT_BIT b` (41_bit_encoder.md R142) -/
  | emitBit (b : Bool)
  /-- `BIT0` = `EMIT_BIT 0` (R144) -/
  | bit0
  /-- `BIT1` = `EMIT_BIT 1` (R143) -/
  | bit1
  /-- `EMIT_BYTE y` (42_frame_sequencer.md R163) -/
  | emitByte (y : Byte)
  /-- `EMIT_COLOR c` (R162) -/
  | emitColor (c : Colour)
  /-- `LATCH` (R166) -/
  | latch
deriving DecidableEq, Repr

/-- The format an operation is written in (R99). -/
def Instr.format : Instr → Format
  | .newIter _ => .H
  | .newMhz _ => .H
  | .newDefault => .H
  | .write => .H
  | .driveHigh => .P
  | .driveLow => .P
  | .delay _ => .U
  | .emitBit _ => .S
  | .bit0 => .S
  | .bit1 => .S
  | .emitByte _ => .B
  | .emitColor _ => .C
  | .latch => .F

end Sys2Proof
end

