-- ==== Sys2Proof/WellFormed.lean ====
section
/-! DEFINITION. Which operations can be written down: a count fits its field (43_host_operations.md R190, R191;
40_delay_primitive.md R120). Everything else is well-formed by its type. -/

namespace Sys2Proof

/-- `ARG` and `CAL` hold 16 bits (R96, R190, R191); `DLY` and format U hold 32 (R97, R120). -/
def Instr.wellFormed : Instr → Bool
  | .newIter n => decide (n < 2 ^ 16)
  | .newMhz f => decide (f < 2 ^ 16)
  | .newDefault => true
  | .write => true
  | .driveHigh => true
  | .driveLow => true
  | .delay n => decide (n < 2 ^ 32)
  | .emitBit _ => true
  | .bit0 => true
  | .bit1 => true
  | .emitByte _ => true
  | .emitColor _ => true
  | .latch => true

/-- The name the opcode table gives the words of an operation: where two rows share a word, the row that fixes more of
its bits (log 9). `NEW_ITER 50` is `NEW_DEFAULT` (R194), `EMIT_BIT 0` is `BIT0` (R144) and `EMIT_BIT 1` is `BIT1`
(R143); every other operation is the only one with its words. -/
def Instr.canonical : Instr → Instr
  | .newIter n => if n = 50 then .newDefault else .newIter n
  | .newMhz f => .newMhz f
  | .newDefault => .newDefault
  | .write => .write
  | .driveHigh => .driveHigh
  | .driveLow => .driveLow
  | .delay n => .delay n
  | .emitBit b => if b then .bit1 else .bit0
  | .bit0 => .bit0
  | .bit1 => .bit1
  | .emitByte y => .emitByte y
  | .emitColor c => .emitColor c
  | .latch => .latch

end Sys2Proof
end

