-- ==== Sys2Proof/Decode.lean ====
section
/-! DEFINITION. Decoding, total on every word of every format and refusing by name, and the encoder beside it
(30_encoding.md R90 to R100). -/

namespace Sys2Proof

/-- Why a word is no operation. -/
inductive Reject where
  /-- the number has more bits than the format -/
  | tooWide
  /-- format H with `OP = 11` (R100) -/
  | reservedOp
  /-- format H with `RSV` not zero (R96, R100) -/
  | reservedBits
  /-- format H with `OP = 10` and `ARG` not zero (R100) -/
  | writeArgument
  /-- three phases that are not `1b0` (R93) -/
  | notASymbol
  /-- format F: the latch is a low period (R166) -/
  | notALatch
deriving DecidableEq, Repr

/-- What decoding answers. -/
inductive Decoded where
  | ok (i : Instr)
  | reject (r : Reject)
deriving DecidableEq, Repr

/-- `OP = CMDW[31:30]` (R96). -/
def commandOp (w : Nat) : Nat := w / 2 ^ 30 % 2 ^ 2

/-- `RSV = CMDW[29:16]` (R96). -/
def commandRsv (w : Nat) : Nat := w / 2 ^ 16 % 2 ^ 14

/-- `ARG = CMDW[15:0]` (R96, R98: unsigned, as it stands). -/
def commandArg (w : Nat) : Nat := w % 2 ^ 16

/-- Format H (R96, R99, R100). The word `0x00000032` is the row `NEW_DEFAULT`, which fixes all of its bits (log 9). -/
def decodeCommand (w : Nat) : Decoded :=
  if commandOp w = 3 then .reject .reservedOp
  else if commandRsv w ≠ 0 then .reject .reservedBits
  else if commandOp w = 0 then
    if commandArg w = 50 then .ok .newDefault else .ok (.newIter (commandArg w))
  else if commandOp w = 1 then .ok (.newMhz (commandArg w))
  else if commandArg w = 0 then .ok .write
  else .reject .writeArgument

/-- Format S (R93): bit 2 is the first phase, always 1; bit 1 the second, the data bit; bit 0 the third, always 0. -/
def decodeSymbol (w : Nat) : Decoded :=
  if w = 4 then .ok .bit0
  else if w = 6 then .ok .bit1
  else .reject .notASymbol

/-- The operation a number is in a format. -/
def decode (f : Format) (w : Nat) : Decoded :=
  if 2 ^ f.width ≤ w then .reject .tooWide
  else match f with
    | .H => decodeCommand w
    | .P => if w = 1 then .ok .driveHigh else .ok .driveLow
    | .U => .ok (.delay w)
    | .S => decodeSymbol w
    | .B => .ok (.emitByte (BitVec.ofNat 8 w))
    | .C => .ok (.emitColor (BitVec.ofNat 24 w))
    | .F => if w = 0 then .ok .latch else .reject .notALatch

/-- A command word from its fields, `RSV` zero (R96). -/
def commandWord (op arg : Nat) : Nat := op * 2 ^ 30 + arg % 2 ^ 16

/-- The three phases `1b0` of a bit as a number, the first phase its most significant bit (R93). -/
def symbolWord (b : Bool) : Nat := if b then 6 else 4

/-- The number an operation is in its own format (R91 to R99). -/
def encode : Instr → Nat
  | .newIter n => commandWord 0 n
  | .newMhz f => commandWord 1 f
  | .newDefault => commandWord 0 50
  | .write => commandWord 2 0
  | .driveHigh => 1
  | .driveLow => 0
  | .delay n => n % 2 ^ 32
  | .emitBit b => symbolWord b
  | .bit0 => symbolWord false
  | .bit1 => symbolWord true
  | .emitByte y => y.toNat
  | .emitColor c => c.toNat
  | .latch => 0

/-- The format that a word of the opcode table is read in, from how many whole bytes its row has (log 10): 32 bits are
a command word (format U never appears on a port, R97), 24 bits a colour, and 8 bits the narrowest format that has the
word: a pin command, a symbol, a byte. -/
def tableFormat (nbits w : Nat) : Option Format :=
  if nbits = 32 then some .H
  else if nbits = 24 then some .C
  else if nbits = 8 then
    if w < 2 then some .P
    else if w = 4 ∨ w = 6 then some .S
    else some .B
  else none

/-- The operation the decoder reads from a word of the opcode table. -/
def decodeTableWord (nbits w : Nat) : Option Instr :=
  match tableFormat nbits w with
  | none => none
  | some f =>
    match decode f w with
    | .ok i => some i
    | .reject _ => none

end Sys2Proof
end

