-- ==== Sys2Proof/Machine/State.lean ====
section
/-! DEFINITION. The state of the engine (10_state.md R20 to R44), its surroundings as plain data (R39; log 3, 4, 5), the
ways a step can stop, and the state after reset (R40). -/

namespace Sys2Proof.Machine

/-- The sequencer state `FSM`, 3 bits, all eight codes used (10_state.md R23). -/
inductive Fsm where
  /-- no Transmitter exists yet -/
  | unconstructed
  /-- constructed, no transmit made -/
  | idle
  /-- `EmittingColor(CI)` -/
  | emittingColor
  /-- `EmittingByte(CI, BYI)` -/
  | emittingByte
  /-- `EmittingBit(CI, BYI, BI)` -/
  | emittingBit
  /-- the trailing low period -/
  | latching
  /-- the last transmit succeeded -/
  | done
  /-- the last transmit ended by a pin-drive failure -/
  | aborted
deriving DecidableEq, Repr

/-- What the engine knows of the pin: `unknown`, or the level it was last successfully told to take (R31). -/
inductive PinLevel where
  | unknown
  | driven (l : Level)
deriving DecidableEq, Repr

/-- The events of a trace (00_scope.md R13). -/
inductive Event where
  /-- `Drive(l, r)`: the engine issued `PinSet(l)` and the pin answered `r` -/
  | drive (l : Level) (r : Answer)
  /-- `Tick(p)`: one tick elapsed while the pin level was `p` -/
  | tick (p : PinLevel)
  /-- `Result(x)`: a `WRITE` ended with `x` -/
  | result (r : Answer)
deriving DecidableEq, Repr

/-- One move of the host (R7, 30_encoding.md R102): a reset, or a command word with the colour sequence it lends on the
colour stream, as words of a 32-bit colour port (20_memory.md R61, R67; log 12). -/
inductive HostAction where
  | reset
  | command (w : Word) (stream : List Word)
deriving DecidableEq, Repr

/-- The engine's state, field by field as 10_state.md R20 lists it, then the surroundings. -/
structure State where
  /-- `CAL`, the calibration constant (R21) -/
  cal : BitVec 16
  /-- `FSM` (R23) -/
  fsm : Fsm
  /-- `CI`, the position of the colour being emitted (R24) -/
  ci : BitVec 32
  /-- `BYI`, which byte of the colour: 0 green, 1 red, 2 blue (R25) -/
  byi : BitVec 2
  /-- `BI`, how many bits of the byte have been sent (R26) -/
  bi : BitVec 3
  /-- `PH`, which of the three phases is current: 1, 2, 3 (R27) -/
  ph : BitVec 2
  /-- `HOLD`, the phase is being held (R27) -/
  hold : Bool
  /-- `COLOR` (R28) -/
  color : Colour
  /-- `BYTE` (R29) -/
  byte : Byte
  /-- `DLY`, the iterations still to run in the current hold (R30) -/
  dly : Word
  /-- `PIN` (R31) -/
  pin : PinLevel
  /-- `STATUS.CONSTRUCTED`, bit 0 (R32) -/
  constructed : Bool
  /-- `STATUS.BUSY`, bit 1 (R33) -/
  busy : Bool
  /-- `STATUS.DONE`, bit 2 (R34) -/
  done : Bool
  /-- `STATUS.ERR`, bit 3 (R35) -/
  err : Bool
  /-- `STATUS.CMDERR`, bit 4 (R36) -/
  cmderr : Bool
  /-- `ERRINFO` (R37) -/
  errinfo : Word
  /-- SURROUNDINGS: the colour stream, the sequence lent with the latest command (R39, R61) -/
  seq : List Word
  /-- SURROUNDINGS: what the host will do, in order -/
  hostQueue : List HostAction
  /-- SURROUNDINGS: the reset input: the head counts the steps before its next event (R250; log 15) -/
  resets : List Nat
  /-- SURROUNDINGS: the platform parameter `PIN_FALLIBLE` (D30; log 4) -/
  pinFallible : Bool
  /-- SURROUNDINGS: the pin's next answers, as far as they are written down (R39) -/
  pinScript : List Answer
  /-- SURROUNDINGS: how many `PinSet`s have been issued: the index of the free answer -/
  pinAsked : Nat
  /-- SURROUNDINGS: no stall tick beyond the written ones: the nominal environment (R13, R175) -/
  stallFree : Bool
  /-- SURROUNDINGS: how many stall ticks come before each next engine step, as far as they are written down (R175) -/
  stalls : List Nat
  /-- SURROUNDINGS: how many stall counts were drawn: the index of the free count -/
  stallDraws : Nat
  /-- OBSERVATION: the events so far, newest first (R13) -/
  log : List Event
deriving DecidableEq, Repr

/-- Where no rule of the spec gives a step: positions of which the spec says that they never occur. No run meets one,
and each is safe: the model stops where nothing is known (log 7). -/
inductive Fault where
  /-- a sequencer operation whose guard on `FSM` fails, raised by `EMIT_COLOR`, `EMIT_BYTE`, `EMIT_BIT`, `BIT0`,
  `BIT1`, `LATCH`, and by a busy engine outside the emitting states (R43, 42_frame_sequencer.md R162 to R166); safe -/
  | outOfPosition
  /-- `PH = 0` where a phase starts, raised by `EMIT_BIT`, `BIT0`, `BIT1`: "PH = 0 never occurs" (R27); safe -/
  | badPhase
  /-- `BYI = 3` where a byte is selected, raised by the step: "The value 3 never occurs" (R25); safe -/
  | badByteIndex
  /-- no colour at `CI` in `EmittingColor`, raised by the step (R43); safe -/
  | noColour
deriving DecidableEq, Repr

/-- What the model gives no meaning. -/
inductive Refusal where
  /-- an operation without a meaning yet, raised by `exec` alone; safe -/
  | notModelled (mnemonic : String)
  /-- a colour sequence of `2^32` colours or more, raised by `WRITE`: "not a sequence the engine can be given"
  (43_host_operations.md R198 e, V5; log 8); safe -/
  | streamTooLong
deriving DecidableEq, Repr

/-- What one step answers. -/
abbrev Outcome := Host.Outcome State Fault Refusal

/-- The state after reset (10_state.md R40). `COLOR` and `BYTE`, which the spec leaves unspecified, are 0 (log 1, 2).
The surroundings: nothing lent, nothing asked, no answer and no stall written down, a fallible pin and a stalling
environment (log 3, 4, 5). -/
def State.reset : State where
  cal := BitVec.ofNat 16 Config.calDefault
  fsm := .unconstructed
  ci := 0
  byi := 0
  bi := 0
  ph := 1
  hold := false
  color := 0
  byte := 0
  dly := 0
  pin := .unknown
  constructed := false
  busy := false
  done := false
  err := false
  cmderr := false
  errinfo := 0
  seq := []
  hostQueue := []
  resets := []
  pinFallible := true
  pinScript := []
  pinAsked := 0
  stallFree := false
  stalls := []
  stallDraws := 0
  log := []

/-- The trace: the events in the order they happened (R13). -/
def State.trace (s : State) : List Event := s.log.reverse

end Sys2Proof.Machine
end

