-- ==== Sys2Proof/Machine/Calibration.lean ====
section
/-! DEFINITION. The calibration arithmetic: exact, on natural numbers (10_state.md R22, 43_host_operations.md R192,
R193). -/

namespace Sys2Proof.Machine

/-- `latch_iter(c)`: the least `n` with `n × PHASE_NS ≥ LATCH_NS × c` (10_state.md R22). -/
def latchIter (c : Nat) : Nat := (Config.latchNs * c + Config.phaseNs - 1) / Config.phaseNs

/-- `iter_from_mhz(f)` for a part with `cpl` cycles an iteration, rounded to nearest, halves up (R192). -/
def iterFromMhzAt (cpl f : Nat) : Nat := (Config.phaseNs * f + 500 * cpl) / (1000 * cpl)

/-- `iter_from_mhz(f)` of this hardware (R192, R9). -/
def iterFromMhz (f : Nat) : Nat := iterFromMhzAt Config.cpl f

/-- `iter_from_ps(p)`, the integrator's helper; `p = 0` has no result (R193, V6). No operation uses it. -/
def iterFromPs (p : Nat) : Option Nat := if p = 0 then none else some ((333000 + p / 2) / p)

end Sys2Proof.Machine
end

