-- ==== Sys2Proof/Machine/Operands.lean ====
section
/-! DEFINITION. The operand forms: how a colour, a byte, a bit and a delay count are obtained (30_encoding.md R98,
20_memory.md R61, R64, R65, R67). Nothing is sign-extended, scaled or shifted. -/

namespace Sys2Proof.Machine

/-- A word of a wider colour port gives the colour in its bits 23:0 (R67). -/
def portColour (w : Word) : Colour := BitVec.setWidth 24 w

/-- `ColorAt(i)`: the colour at position `i` of the lent sequence, `none` at its length and past it (R61). -/
def colorAt (seq : List Word) (i : Nat) : Option Colour := (seq[i]?).map portColour

/-- `sel(c, k)`: the bytes of a colour in the order they are sent, green, red, blue; no byte 3 (R98, R64). -/
def sel (c : Colour) (k : BitVec 2) : Option Byte :=
  if k = 0 then some (c.extractLsb' 8 8)
  else if k = 1 then some (c.extractLsb' 16 8)
  else if k = 2 then some (c.extractLsb' 0 8)
  else none

/-- The bit of a byte that is sent after `k` others: `y[7 − k]`, most significant first (R98, R65). -/
def bitAt (y : Byte) (k : BitVec 3) : Bool := y.getLsbD (7 - k.toNat)

/-- The delay operand of a phase: `zext_32(CAL)` (R98). -/
def phaseDelay (cal : BitVec 16) : Word := BitVec.setWidth 32 cal

/-- The delay operand of the latch: `latch_iter(CAL)`, which fits 32 bits (R98, R10). -/
def latchDelay (cal : BitVec 16) : Word := BitVec.ofNat 32 (latchIter cal.toNat)

end Sys2Proof.Machine
end

