-- ==== Sys2Proof/Machine/Flags.lean ====
section
/-! DEFINITION. The status flags: what sets and clears them, and the registers the host reads (10_state.md R32 to R38). -/

namespace Sys2Proof.Machine

/-- The code of a sequencer state (10_state.md R23). -/
def Fsm.code : Fsm → BitVec 3
  | .unconstructed => 0
  | .idle => 1
  | .emittingColor => 2
  | .emittingByte => 3
  | .emittingBit => 4
  | .latching => 5
  | .done => 6
  | .aborted => 7

/-- The states in which a transmit is under way: `BUSY = 1` exactly in these (R43). -/
def Fsm.transmitting : Fsm → Bool
  | .unconstructed => false
  | .idle => false
  | .emittingColor => true
  | .emittingByte => true
  | .emittingBit => true
  | .latching => true
  | .done => false
  | .aborted => false

/-- The states in which a colour is being emitted (R43). -/
def Fsm.emitting : Fsm → Bool
  | .unconstructed => false
  | .idle => false
  | .emittingColor => true
  | .emittingByte => true
  | .emittingBit => true
  | .latching => false
  | .done => false
  | .aborted => false

/-- The states in which a `WRITE` is accepted: `Idle`, `Done` and `Aborted` alike (42_frame_sequencer.md R160). -/
def Fsm.acceptsWrite : Fsm → Bool
  | .unconstructed => false
  | .idle => true
  | .emittingColor => false
  | .emittingByte => false
  | .emittingBit => false
  | .latching => false
  | .done => true
  | .aborted => true

/-- One flag of `STATUS` at its bit position. -/
def flagBit (f : Bool) (position : Nat) : Word := if f then BitVec.ofNat 32 (2 ^ position) else 0

/-- `STATUS` as the host reads it: bit 0 `CONSTRUCTED`, 1 `BUSY`, 2 `DONE`, 3 `ERR`, 4 `CMDERR`, bits 31:5 zero
(R32, R38). -/
def State.statusWord (s : State) : Word :=
  flagBit s.constructed 0 ||| flagBit s.busy 1 ||| flagBit s.done 2 ||| flagBit s.err 3 ||| flagBit s.cmderr 4

/-- The host's view of a register by its number: CSR 0 `CAL`, 1 `STATUS`, 2 `ERRINFO`, no other (R38). Reading changes
nothing. -/
def State.readCsr (s : State) (n : Nat) : Option Word :=
  if n = 0 then some (BitVec.setWidth 32 s.cal)
  else if n = 1 then some s.statusWord
  else if n = 2 then some s.errinfo
  else none

/-- `refuse`: set `CMDERR` and change nothing else (00_scope.md R12, 43_host_operations.md R198). -/
def State.refuse (s : State) : State := { s with cmderr := true }

/-- The flags of an accepted `WRITE`: `DONE <- 0; ERR <- 0; BUSY <- 1` (42_frame_sequencer.md R161). -/
def State.flagsAccepted (s : State) : State := { s with done := false, err := false, busy := true }

/-- The flags of a finished transmit: `DONE <- 1; BUSY <- 0` (R167). -/
def State.flagsDone (s : State) : State := { s with done := true, busy := false }

/-- The flags of an abort: `ERR <- 1; BUSY <- 0` (60_exceptions.md R222). -/
def State.flagsAborted (s : State) : State := { s with err := true, busy := false }

end Sys2Proof.Machine
end

