-- ==== Sys2Proof/Machine/Ops.lean ====
section
/-! DEFINITION. The operations every meaning is written from: the trace, the pin, the abort, the hold, the stall ticks
and the reset event. -/

namespace Sys2Proof.Machine

/-- An event happens (00_scope.md R13). -/
def State.emit (s : State) (e : Event) : State := { s with log := e :: s.log }

/-! ### The pin (20_memory.md R63) -/

/-- What the pin answers to the `k`-th `PinSet` from now on: always `Ok` when the pin is infallible (60_exceptions.md
R227); else the written answer, and past the written ones the free value (R39, D30; log 4). -/
def State.answerAt (s : State) (k : Nat) : Answer :=
  if s.pinFallible then (s.pinScript[k]?).getD (Config.freePinAnswer (s.pinAsked + k)) else .ok

/-- What the pin answers to the next `PinSet`. -/
def State.pinAnswer (s : State) : Answer := s.answerAt 0

/-- One request has been issued: its answer is used up. -/
def State.asked (s : State) : State := { s with pinScript := s.pinScript.tail, pinAsked := s.pinAsked + 1 }

/-- A `PinSet(l)` that answered `Ok`: `emit Drive(l, Ok); PIN <- l` (41_bit_encoder.md R140, R141). -/
def State.pinTakes (s : State) (l : Level) : State := { s.asked.emit (.drive l .ok) with pin := .driven l }

/-- TAKING THE EXCEPTION, `raise PinError(e)`: the abort of 60_exceptions.md R222, in one step. `CI`, `BYI`, `BI` and
`PH` keep the position of the failing request. There is no return from it beside it: "There is no return-from-error
operation and nothing to restore" (R223); the next `WRITE` starts a whole new frame. -/
def State.raisePinError (s : State) (l : Level) (e : Word) : State :=
  { ((s.asked.emit (.drive l (.err e))).flagsAborted).emit (.result (.err e)) with
    pin := .unknown, errinfo := e, hold := false, dly := 0, fsm := .aborted }

/-- Ask the pin for level `l`; on `Ok` go on with `next`, on `Err(e)` abort (42_frame_sequencer.md R164, R166). -/
def State.driveThen (s : State) (l : Level) (next : State → State) : State :=
  match s.pinAnswer with
  | .ok => next (s.pinTakes l)
  | .err e => s.raisePinError l e

/-! ### The hold (40_delay_primitive.md R120) -/

/-- `DLY <- n; HOLD <- 1`. -/
def State.startHold (s : State) (n : Word) : State := { s with dly := n, hold := true }

/-- `DLY <- DLY - 1; emit Tick(PIN)`. -/
def State.tick (s : State) : State := { s.emit (.tick s.pin) with dly := s.dly - 1 }

/-- `HOLD <- 0`, no tick. -/
def State.endHold (s : State) : State := { s with hold := false }

/-- One engine step of a hold that is under way: a tick while `DLY > 0`, else `after`. -/
def State.holdStep (s : State) (after : State → State) : State :=
  if s.dly = 0 then after s else s.tick

/-! ### The stall environment (42_frame_sequencer.md R175; log 5) -/

/-- How many stall ticks come before the `k`-th engine step from now on: the written choice, and past the written ones
none in the nominal environment, else the free value. -/
def State.stallAt (s : State) (k : Nat) : Nat :=
  (s.stalls[k]?).getD (if s.stallFree then 0 else Config.freeStall (s.stallDraws + (k - s.stalls.length)))

/-- How many stall ticks are still to come before the next engine step. -/
def State.stallDue (s : State) : Nat :=
  match s.stalls with
  | n :: _ => n
  | [] => if s.stallFree then 0 else Config.freeStall s.stallDraws

/-- A stall step: `Tick(PIN)`, and no engine state changes. -/
def State.stallTick (s : State) : State :=
  match s.stalls with
  | n :: rest => { s.emit (.tick s.pin) with stalls := (n - 1) :: rest }
  | [] =>
    { s.emit (.tick s.pin) with
      stalls := [Config.freeStall s.stallDraws - 1], stallDraws := s.stallDraws + 1 }

/-- The environment lets the engine take its step: its choice of stall ticks for it is used up. -/
def State.stallSpent (s : State) : State :=
  match s.stalls with
  | _ :: rest => { s with stalls := rest }
  | [] => if s.stallFree then s else { s with stallDraws := s.stallDraws + 1 }

/-! ### Reset (70_reset_and_hazards.md R250; log 15) -/

/-- The reset event: every register takes its reset value; no `PinSet`, no latch, no `Result`. The borrow of the colour
sequence is over; the host's further moves, the pin, the stall environment and the trace are not the engine's and stay. -/
def State.resetEvent (s : State) : State :=
  { State.reset with
    hostQueue := s.hostQueue
    resets := s.resets
    pinFallible := s.pinFallible
    pinScript := s.pinScript
    pinAsked := s.pinAsked
    stallFree := s.stallFree
    stalls := s.stalls
    stallDraws := s.stallDraws
    log := s.log }

/-- The reset input fires in this step. -/
def State.resetDue (s : State) : Bool := s.resets.head? == some 0

/-- The reset input's event: its count is used up and the engine is reset. -/
def State.takeReset (s : State) : State := { s with resets := s.resets.tail }.resetEvent

/-- One step nearer to the reset input's next event. -/
def State.countReset (s : State) : State :=
  match s.resets with
  | [] => s
  | n :: rest => { s with resets := (n - 1) :: rest }

end Sys2Proof.Machine
end

