-- ==== Sys2Proof/Machine/Bit.lean ====
section
/-! DEFINITION. The bit encoder: `EMIT_BIT` and its two cases `BIT0`, `BIT1` (41_bit_encoder.md R142 to R144), as the
engine steps of 42_frame_sequencer.md R164, R165. -/

namespace Sys2Proof.Machine

/-- The start of the hold of a phase: `DLY <- zext_32(CAL); HOLD <- 1` (R164). -/
def State.holdPhase (s : State) : State := s.startHold (phaseDelay s.cal)

/-- The phase action (R164): phase 1 drives high; phase 2 drives low for a 0 and asks nothing of the pin for a 1; phase 3
drives low. Then the phase's hold starts, unless the pin failed. -/
def State.phaseAction (s : State) (b : Bool) : Outcome :=
  if s.ph = 1 then .next (s.driveThen true State.holdPhase)
  else if s.ph = 2 then
    if b then .next s.holdPhase else .next (s.driveThen false State.holdPhase)
  else if s.ph = 3 then .next (s.driveThen false State.holdPhase)
  else .fault .badPhase

/-- The end of a hold in `EmittingBit`: where control goes next, in one step with `HOLD <- 0` (R165). -/
def State.advance (s : State) : State :=
  if s.ph.toNat < 3 then { s.endHold with ph := s.ph + 1 }
  else if s.bi.toNat < 7 then { s.endHold with ph := 1, bi := s.bi + 1 }
  else if s.byi.toNat < 2 then { s.endHold with ph := 1, byi := s.byi + 1, fsm := .emittingByte }
  else if (colorAt s.seq (s.ci.toNat + 1)).isSome then
    { s.endHold with ph := 1, ci := s.ci + 1, fsm := .emittingColor }
  else { s.endHold with ph := 1, fsm := .latching }

/-- One engine step of a bit: the phase action; while the phase is held a tick a step; then the advance (R164, R120,
R165). The bit sent is the operand's: which bit that is, is not the encoder's business (R148). -/
def State.bitStep (s : State) (b : Bool) : Outcome :=
  if s.fsm = .emittingBit then
    if s.hold then .next (s.holdStep State.advance) else s.phaseAction b
  else .fault .outOfPosition

/-- `EMIT_BIT b` (R142). -/
def execEmitBit (b : Bool) (s : State) : Outcome := s.bitStep b

/-- `BIT0` = `EMIT_BIT 0` (R144). -/
def execBit0 (s : State) : Outcome := s.bitStep false

/-- `BIT1` = `EMIT_BIT 1` (R143). -/
def execBit1 (s : State) : Outcome := s.bitStep true

end Sys2Proof.Machine
end

