-- ==== Sys2Proof/Machine/Frame.lean ====
section
/-! DEFINITION. The frame sequencer's own operations: `EMIT_COLOR`, `EMIT_BYTE`, `LATCH` (42_frame_sequencer.md R162,
R163, R166, R167). -/

namespace Sys2Proof.Machine

/-- `EMIT_COLOR c`: `COLOR <- c; BYI <- 0; FSM <- EmittingByte`, guarded by `FSM = EmittingColor` (R162). -/
def execEmitColor (c : Colour) (s : State) : Outcome :=
  if s.fsm = .emittingColor then .next { s with color := c, byi := 0, fsm := .emittingByte }
  else .fault .outOfPosition

/-- `EMIT_BYTE y`: `BYTE <- y; BI <- 0; PH <- 1; HOLD <- 0; FSM <- EmittingBit`, guarded by `FSM = EmittingByte`
(R163). -/
def execEmitByte (y : Byte) (s : State) : Outcome :=
  if s.fsm = .emittingByte then
    .next { s with byte := y, bi := 0, ph := 1, hold := false, fsm := .emittingBit }
  else .fault .outOfPosition

/-- The start of the latch hold: `DLY <- latch_iter(CAL); HOLD <- 1` (R166). -/
def State.holdLatch (s : State) : State := s.startHold (latchDelay s.cal)

/-- The end of the latch: `HOLD <- 0; FSM <- Done; DONE <- 1; BUSY <- 0; emit Result(Ok)` (R167). -/
def State.finish (s : State) : State :=
  { (s.endHold.flagsDone).emit (.result .ok) with fsm := .done }

/-- One engine step of `LATCH`: drive low and start the hold; a tick a step; then `Done` (R166, R120, R167). -/
def execLatch (s : State) : Outcome :=
  if s.fsm = .latching then
    if s.hold then .next (s.holdStep State.finish) else .next (s.driveThen false State.holdLatch)
  else .fault .outOfPosition

end Sys2Proof.Machine
end

