-- ==== Sys2Proof/Machine/HostOps.lean ====
section
/-! DEFINITION. The host operations `NEW_ITER`, `NEW_MHZ`, `NEW_DEFAULT`, `WRITE` (43_host_operations.md). -/

namespace Sys2Proof.Machine

/-- Construction with the iteration count `n` (R190, R191): refused unless `Unconstructed`; it touches neither the pin
nor any other register (70_reset_and_hazards.md R251). -/
def State.construct (s : State) (n : Nat) : State :=
  if s.fsm = .unconstructed then { s with cal := BitVec.ofNat 16 n, fsm := .idle, constructed := true }
  else s.refuse

/-- `NEW_ITER n` (R190). -/
def execNewIter (n : Nat) (s : State) : Outcome := .next (s.construct n)

/-- `NEW_MHZ f`: as `NEW_ITER iter_from_mhz(f)`; the engine does not remember `f` (R191, R192). -/
def execNewMhz (f : Nat) (s : State) : Outcome := .next (s.construct (iterFromMhz f))

/-- `NEW_DEFAULT` = `NEW_ITER 50` (R194, 30_encoding.md R103). -/
def execNewDefault (s : State) : Outcome := .next (s.construct Config.calDefault)

/-- The start of a frame (42_frame_sequencer.md R161): no event; an empty sequence goes straight to the latch.
`ERRINFO` and `CMDERR` are unchanged (D28). -/
def State.startFrame (s : State) : State :=
  { s.flagsAccepted with
    ci := 0, byi := 0, bi := 0, ph := 1, hold := false, dly := 0
    fsm := if (colorAt s.seq 0).isSome then .emittingColor else .latching }

/-- `WRITE` (R195): refused unless `Idle`, `Done` or `Aborted`; else the frame starts, and the steps that follow run it
to `Done` or `Aborted`. A sequence of `2^32` colours or more "is not a sequence the engine can be given" (R198 e, V5;
log 8). -/
def execWrite (s : State) : Outcome :=
  if s.fsm.acceptsWrite then
    if s.seq.length < 2 ^ 32 then .next s.startFrame else .refused .streamTooLong
  else .next s.refuse

end Sys2Proof.Machine
end

