-- ==== Sys2Proof/Machine/Micro.lean ====
section
/-! DEFINITION. The micro-operations `DRIVE_HIGH`, `DRIVE_LOW` (41_bit_encoder.md R140, R141) and `DELAY`
(40_delay_primitive.md R120). -/

namespace Sys2Proof.Machine

/-- `DRIVE_HIGH` (R140): the request is made even when the pin is already high (20_memory.md R77). -/
def execDriveHigh (s : State) : Outcome := .next (s.driveThen true id)

/-- `DRIVE_LOW` (R141). -/
def execDriveLow (s : State) : Outcome := .next (s.driveThen false id)

/-- One engine step of `DELAY n` (R120): the start; then a tick a step; then the end, which takes no tick. It cannot
fail (R123) and changes nothing but `DLY` and `HOLD`. -/
def execDelay (n : Nat) (s : State) : Outcome :=
  .next (if s.hold then s.holdStep State.endHold else s.startHold (BitVec.ofNat 32 n))

end Sys2Proof.Machine
end

