-- ==== Sys2Proof/Machine/Dispatch.lean ====
section
/-! DEFINITION. The meaning of every operation of the opcode table: one engine step of it (log 6). -/

namespace Sys2Proof.Machine

def exec (i : Instr) (s : State) : Host.Outcome State Fault Refusal :=
  match i with
  | .newIter n => Sys2Proof.Machine.execNewIter n s
  | .newMhz f => Sys2Proof.Machine.execNewMhz f s
  | .newDefault => Sys2Proof.Machine.execNewDefault s
  | .write => Sys2Proof.Machine.execWrite s
  | .driveHigh => Sys2Proof.Machine.execDriveHigh s
  | .driveLow => Sys2Proof.Machine.execDriveLow s
  | .delay n => Sys2Proof.Machine.execDelay n s
  | .emitBit b => Sys2Proof.Machine.execEmitBit b s
  | .bit0 => Sys2Proof.Machine.execBit0 s
  | .bit1 => Sys2Proof.Machine.execBit1 s
  | .emitByte y => Sys2Proof.Machine.execEmitByte y s
  | .emitColor c => Sys2Proof.Machine.execEmitColor c s
  | .latch => Sys2Proof.Machine.execLatch s

end Sys2Proof.Machine
end

