-- ==== Sys2Proof/Machine/Fetch.lean ====
section
/-! DEFINITION. Where the next operation comes from. The engine fetches no instructions (20_memory.md R74): while it is
busy its position says which operation is next (10_state.md R42), and the operand comes from the colour stream, `COLOR` or
`BYTE`; otherwise the host's next command word is read (30_encoding.md R96). -/

namespace Sys2Proof.Machine

/-- The word at the position, in the format it is read in, or that no rule gives the position a step. -/
inductive Fetched where
  | word (f : Format) (w : Nat)
  | stuck (r : Fault)
deriving DecidableEq, Repr

/-- A busy engine's next word (42_frame_sequencer.md R162 to R166): the colour at `CI`, the byte `sel(COLOR, BYI)`, the
symbol of the bit `BYTE[7 − BI]`, the latch. -/
def State.fetch (s : State) : Fetched :=
  match s.fsm with
  | .emittingColor =>
    match colorAt s.seq s.ci.toNat with
    | some c => .word .C c.toNat
    | none => .stuck .noColour
  | .emittingByte =>
    match sel s.color s.byi with
    | some y => .word .B y.toNat
    | none => .stuck .badByteIndex
  | .emittingBit => .word .S (symbolWord (bitAt s.byte s.bi))
  | .latching => .word .F 0
  | .unconstructed => .stuck .outOfPosition
  | .idle => .stuck .outOfPosition
  | .done => .stuck .outOfPosition
  | .aborted => .stuck .outOfPosition

/-- One engine step of a busy engine: the operation at its position. -/
def State.engineStep (s : State) : Outcome :=
  match s.fetch with
  | .stuck r => .fault r
  | .word f w =>
    match decode f w with
    | .ok i => exec i s
    | .reject _ => .fault .outOfPosition

/-- The host has presented a command: the word is taken from the queue and its sequence is on the colour stream. -/
def State.takeCommand (s : State) (rest : List HostAction) (stream : List Word) : State :=
  { s with hostQueue := rest, seq := stream }

/-- One move of the host, while `BUSY = 0`. An illegal word is refused (30_encoding.md R100). With nothing to do the host
does nothing: the engine has no step of its own and waits (42_frame_sequencer.md R167; log 14). -/
def State.hostStep (s : State) : Outcome :=
  match s.hostQueue with
  | [] => .next s
  | .reset :: rest => .next { s with hostQueue := rest }.resetEvent
  | .command w stream :: rest =>
    match decode .H w.toNat with
    | .ok i => exec i (s.takeCommand rest stream)
    | .reject _ => .next (s.takeCommand rest stream).refuse

/-- A busy engine with its surroundings: the stall ticks that are due, then the engine's step (R175). The command port
takes nothing (43_host_operations.md R198 d). -/
def State.busyStep (s : State) : Outcome :=
  if s.stallDue = 0 then s.stallSpent.engineStep else .next s.stallTick

/-- One step of the whole: the reset input first, in any state (70_reset_and_hazards.md R250); then the engine if it is
busy, else the host. -/
def State.cycle (s : State) : Outcome :=
  if s.resetDue then .next s.takeReset
  else if s.busy then s.countReset.busyStep
  else s.countReset.hostStep

/-- No reset and no stall tick comes before the next engine step. -/
def State.undisturbed (s : State) : State :=
  { s with
    resets := match s.resets with
      | 0 :: rest => 1 :: rest
      | r => r
    stalls := 0 :: s.stalls }

/-- A state whose next step runs the table's word as the next operation (log 11). A command word is put first in the
host's queue, before an engine that is not busy; a colour, a byte or a symbol is put where a busy engine reads it; a pin
command stands at the phase that issues it. -/
def State.placeWord (s : State) (nbits w : Nat) : State :=
  match tableFormat nbits w with
  | some .H =>
    { s.undisturbed with
      hostQueue := .command (BitVec.ofNat 32 w) s.seq :: s.hostQueue
      stalls := s.stalls
      busy := false
      hold := if s.busy then false else s.hold
      dly := if s.busy then 0 else s.dly
      fsm := if s.busy then .idle else s.fsm }
  | some .C =>
    { s.undisturbed with
      seq := [BitVec.ofNat 32 w], ci := 0, hold := false, dly := 0
      fsm := .emittingColor, constructed := true, busy := true, done := false, err := false }
  | some .B =>
    { s.undisturbed with
      seq := [0], ci := 0, color := BitVec.ofNat 24 (w * 2 ^ 8), byi := 0, hold := false, dly := 0
      fsm := .emittingByte, constructed := true, busy := true, done := false, err := false }
  | some .S =>
    { s.undisturbed with
      seq := [0], ci := 0, byi := 0, byte := if w = 6 then 0x80 else 0, bi := 0, ph := 1, hold := false, dly := 0
      fsm := .emittingBit, constructed := true, busy := true, done := false, err := false }
  | some .P =>
    { s.undisturbed with
      seq := [0], ci := 0, byi := 0, bi := 0, ph := if w = 1 then 1 else 3, hold := false, dly := 0
      fsm := .emittingBit, constructed := true, busy := true, done := false, err := false }
  | some .U => s
  | some .F => s
  | none => s

end Sys2Proof.Machine
end

