-- ==== Sys2Proof/Machine/Step.lean ====
section
/-! DEFINITION. One step of the machine, and how the host of these checks places an operation (log 11). -/

namespace Sys2Proof.Machine

/-- One step: a reset event, an engine step, a stall tick or a move of the host. -/
def step (s : State) : Host.Outcome State Fault Refusal := s.cycle

/-- The state with the table's word placed where the next step reads it. -/
def State.withFetchWord (s : State) (nbits w : Nat) : State := s.placeWord nbits w

end Sys2Proof.Machine
end

