-- ==== Sys2Proof/Machine/OpList.lean ====
section
/-! DEFINITION. The big-step reading of a transmit: the op list of a bit, a byte, a colour and a frame, and running it
against the pin, with stall ticks placed or without (42_frame_sequencer.md R168, R175, 41_bit_encoder.md R142). The step
function does not use it; that the two agree (R173) is a statement. -/

namespace Sys2Proof.Machine

/-- A micro-operation: `Drive l` or `Delay n` (00_scope.md R13). -/
inductive MicroOp where
  | drive (l : Level)
  | delay (n : Nat)
deriving DecidableEq, Repr

/-- `BitOps(b)` (R142). -/
def bitOps (cal : Nat) (b : Bool) : List MicroOp :=
  [.drive true, .delay cal] ++ (if b then [] else [.drive false]) ++ [.delay cal] ++ [.drive false, .delay cal]

/-- The bits of a byte in the order they are sent, `y[7]` first (R65). -/
def byteBits (y : Byte) : List Bool :=
  [y.getLsbD 7, y.getLsbD 6, y.getLsbD 5, y.getLsbD 4, y.getLsbD 3, y.getLsbD 2, y.getLsbD 1, y.getLsbD 0]

/-- The bytes of a colour in the order they are sent, green, red, blue (R64). -/
def colourBytes (c : Colour) : List Byte :=
  [c.extractLsb' 8 8, c.extractLsb' 16 8, c.extractLsb' 0 8]

/-- The 24 bits of a colour in the order they are sent (R65). -/
def colourBits (c : Colour) : List Bool := (colourBytes c).flatMap byteBits

/-- `ByteOps(y)` (R163). -/
def byteOps (cal : Nat) (y : Byte) : List MicroOp := (byteBits y).flatMap (bitOps cal)

/-- `ColorOps(c)` (R162). -/
def colorOps (cal : Nat) (c : Colour) : List MicroOp := (colourBytes c).flatMap (byteOps cal)

/-- `LatchOps` (R166). -/
def latchOps (cal : Nat) : List MicroOp := [.drive false, .delay (latchIter cal)]

/-- `FrameOps(cs)` (R168). -/
def frameOps (cal : Nat) (cs : List Colour) : List MicroOp := cs.flatMap (colorOps cal) ++ latchOps cal

/-- Running an op list against a pin that answers `ask k` to its `k`-th request, from the level `p` (R168). The list
`more` places the stall ticks: a count for each op in turn, none past its end (R175). They show the level the op finds:
those of a `Drive` come before its request, and those of a `Delay` lengthen its hold (40_delay_primitive.md R122). -/
def runStalled (ask : Nat → Answer) : Nat → PinLevel → List Nat → List MicroOp → List Event
  | _, _, _, [] => [.result .ok]
  | k, p, more, .drive l :: ops =>
    List.replicate (more.headD 0) (.tick p) ++
      match ask k with
      | .ok => .drive l .ok :: runStalled ask (k + 1) (.driven l) more.tail ops
      | .err e => [.drive l (.err e), .result (.err e)]
  | k, p, more, .delay n :: ops =>
    List.replicate (n + more.headD 0) (.tick p) ++ runStalled ask k p more.tail ops

/-- The run with no stall tick: the events of the nominal trace (R168, 00_scope.md R13). -/
def runOps (ask : Nat → Answer) (k : Nat) (p : PinLevel) (ops : List MicroOp) : List Event :=
  runStalled ask k p [] ops

/-! ### Which op an engine step belongs to

The environment chooses its stall ticks engine step by engine step (log 5), an op list op by op. These lists say how many
engine steps fall to each op of `bitOps`, `byteOps`, `colorOps` and `frameOps`, in the same order. -/

/-- A bit (R164, R165, R120): a request is one step, with the `before` sequencer steps that lead to the bit; a hold of
`CAL` ticks is those and its end. Phase 2 of a 1 has a step without a request, which falls to its hold. -/
def bitSteps (before cal : Nat) (b : Bool) : List Nat :=
  [before + 1, cal + 1] ++ (if b then [cal + 2] else [1, cal + 1]) ++ [1, cal + 1]

/-- A byte: `EMIT_BYTE` comes before its first bit (R163). -/
def byteSteps (before cal : Nat) (y : Byte) : List Nat :=
  match byteBits y with
  | [] => []
  | b :: bits => bitSteps (before + 1) cal b ++ bits.flatMap (bitSteps 0 cal)

/-- A colour: `EMIT_COLOR` comes before its first byte (R162). -/
def colorSteps (cal : Nat) (c : Colour) : List Nat :=
  match colourBytes c with
  | [] => []
  | y :: bytes => byteSteps 1 cal y ++ bytes.flatMap (byteSteps 0 cal)

/-- A frame; its latch is a request and a hold (R166, R167). -/
def frameSteps (cal : Nat) (cs : List Colour) : List Nat := cs.flatMap (colorSteps cal) ++ [1, latchIter cal + 1]

/-- The stall ticks of each op, from the choice for each engine step, the `j`-th step being the next. -/
def opStalls (stall : Nat → Nat) : Nat → List Nat → List Nat
  | _, [] => []
  | j, m :: steps => ((List.range m).map fun i => stall (j + i)).sum :: opStalls stall (j + m) steps

/-- Where the environment's choices from here on put the stall ticks of a frame of the colours `cs`. -/
def State.frameStalls (s : State) (cs : List Colour) : List Nat :=
  opStalls s.stallAt 0 (frameSteps s.cal.toNat cs)

end Sys2Proof.Machine
end

