-- ==== Sys2Proof/Machine/Observe.lean ====
section
/-! DEFINITION. What is read off a trace: the waveform, the requests, the edges, the result (00_scope.md R13,
20_memory.md R77), and the nominal times of 70_reset_and_hazards.md R261, R262. No step reads any of it. -/

namespace Sys2Proof.Machine

/-- The waveform: the pin level tick by tick (R13). -/
def waveform (t : List Event) : List PinLevel :=
  t.filterMap fun
    | .tick p => some p
    | .drive _ _ => none
    | .result _ => none

/-- The `Drive` and `Result` events alone: what stall ticks leave as it is (R175). -/
def actions (t : List Event) : List Event :=
  t.filter fun
    | .tick _ => false
    | .drive _ _ => true
    | .result _ => true

/-- How many `PinSet` requests a trace has (R77). -/
def requests (t : List Event) : Nat :=
  t.countP fun
    | .drive _ _ => true
    | .tick _ => false
    | .result _ => false

/-- How many `Result` events a trace has (43_host_operations.md R196). -/
def results (t : List Event) : Nat :=
  t.countP fun
    | .result _ => true
    | .tick _ => false
    | .drive _ _ => false

/-- How many level changes there are on the wire from the level `p`: a request for the level already present makes no
edge (R63, R77). DESIGN CHOICE (log 22): the spec leaves the wire's level unknown after a `PinSet` that answered `Err`
(D11, N17); this count goes on from the level before that request. -/
def edges (p : Level) : List Event → Nat
  | [] => 0
  | .drive l .ok :: t => (if l = p then 0 else 1) + edges l t
  | .drive _ (.err _) :: t => edges p t
  | .tick _ :: t => edges p t
  | .result _ :: t => edges p t

/-- A waveform as runs of one level with their lengths. -/
def runLengths : List PinLevel → List (PinLevel × Nat)
  | [] => []
  | p :: w =>
    match runLengths w with
    | (q, n) :: rest => if p = q then (q, n + 1) :: rest else (p, 1) :: (q, n) :: rest
    | [] => [(p, 1)]

/-- A waveform is in tolerance if each of its runs is; the tolerance is the claim's own (60_exceptions.md R235,
70_reset_and_hazards.md R264). -/
def inTolerance (ok : PinLevel → Nat → Bool) (w : List PinLevel) : Bool :=
  (runLengths w).all fun r => ok r.1 r.2

/-- How many delays an op list has (42_frame_sequencer.md R176). -/
def delays (ops : List MicroOp) : Nat :=
  ops.countP fun
    | .delay _ => true
    | .drive _ => false

/-- How many of the bits of a colour sequence are 0: the `Z` of 42_frame_sequencer.md R176. -/
def zeroBits (cs : List Colour) : Nat := (cs.flatMap colourBits).count false

/-- The nominal length of one bit in nanoseconds (70_reset_and_hazards.md R261). -/
def bitNs : Nat := Config.bitPhases * Config.phaseNs

/-- The nominal length of a frame of `n` colours in nanoseconds (R261, 43_host_operations.md R197). -/
def frameNs (n : Nat) : Nat := Config.colorBits * bitNs * n + Config.latchNs

/-- The nominal length of a frame of `n` colours in ticks (42_frame_sequencer.md R172). -/
def frameTicks (cal n : Nat) : Nat := Config.bitPhases * Config.colorBits * cal * n + latchIter cal

/-- The nominal length of one tick in nanoseconds at `f` MHz: `CPL × 1000 / f` (R262). -/
def tickNs (f : Nat) : Rat := (Config.cpl * 1000 : Nat) / (f : Rat)

/-- The nominal length of one tick of this part, whose clock the spec leaves open (R9, R262; log 18). -/
def nominalTickNs : Rat := tickNs Config.fMhz

end Sys2Proof.Machine
end

