-- ==== Sys2Proof/Machine/Program.lean ====
section
/-! DEFINITION. The line notation for what a host does (30_encoding.md R102, R103), turned into host actions. -/

namespace Sys2Proof.Machine

/-- One line of a program (R102, R103), a raw command word among them for the words that are no operation. -/
inductive Line where
  /-- `RESET` -/
  | reset
  /-- `NEW_ITER n` -/
  | newIter (n : Nat)
  /-- `NEW_MHZ f` -/
  | newMhz (f : Nat)
  /-- the pseudo-operation `NEW_DEFAULT` -/
  | newDefault
  /-- `WRITE [c0, c1, ...]` -/
  | write (cs : List Word)
  /-- a command word as it stands -/
  | raw (w : Word)
deriving DecidableEq, Repr

/-- The host action of an operation with its colour sequence. -/
def commandAction (i : Instr) (cs : List Word) : HostAction := .command (BitVec.ofNat 32 (encode i)) cs

/-- A line as a host action; `n` and `f` lie in `0..65535` (R102), else there is no such line. -/
def Line.action : Line → Option HostAction
  | .reset => some .reset
  | .newIter n => if (Instr.newIter n).wellFormed then some (commandAction (.newIter n) []) else none
  | .newMhz f => if (Instr.newMhz f).wellFormed then some (commandAction (.newMhz f) []) else none
  | .newDefault => some (commandAction .newDefault [])
  | .write cs => some (commandAction .write cs)
  | .raw w => some (.command w [])

/-- The state whose host will do the lines of a program, after what it was to do already; the pin's answers and the
stalls of a line's comments are the fields `pinScript`, `stalls`, `pinFallible` and `stallFree`. -/
def State.withProgram (s : State) (p : List Line) : Option State :=
  (p.mapM Line.action).map fun a => { s with hostQueue := s.hostQueue ++ a }

end Sys2Proof.Machine
end

