-- ==== Sys2Proof/Safety.lean ====
section
/-! DEFINITION. What claims speak of: the invariants of 10_state.md R43, runs, the moment before a `WRITE`, the nominal
environment, and the order of positions (R42). -/

namespace Sys2Proof.Machine

/-- The invariants of 10_state.md R43, clause by clause, and that a sequence under way is one the engine can be given
(R24, 43_host_operations.md R198 e). -/
structure State.Inv (s : State) : Prop where
  byteIndex : s.byi.toNat ≤ 2
  phase : s.ph = 1 ∨ s.ph = 2 ∨ s.ph = 3
  noCountOutsideHold : s.hold = false → s.dly = 0
  holdPosition : s.hold = true → s.fsm = .emittingBit ∨ s.fsm = .latching
  colourExists : s.fsm.emitting = true → (colorAt s.seq s.ci.toNat).isSome = true
  busyExactly : s.busy = s.fsm.transmitting
  doneExactly : s.done = true ↔ s.fsm = .done
  errExactly : s.err = true ↔ s.fsm = .aborted
  constructedExactly : s.constructed = true ↔ s.fsm ≠ .unconstructed
  streamFits : s.busy = true → s.seq.length < 2 ^ 32

/-- A step function done `k` times, stopping at the first fault or refusal. -/
def repeated (f : State → Outcome) : Nat → State → Outcome
  | 0, s => .next s
  | k + 1, s =>
    match f s with
    | .next t => repeated f k t
    | .fault r => .fault r
    | .refused r => .refused r

/-- A run of the machine leads from one state to the other. -/
def Leads (s t : State) : Prop := ∃ k, repeated step k s = .next t

/-- The host's next move is an acceptable `WRITE` of the colours `cs` (42_frame_sequencer.md R161) and no reset
arrives. -/
structure State.AboutToWrite (s : State) (cs : List Word) (rest : List HostAction) : Prop where
  notBusy : s.busy = false
  accepts : s.fsm.acceptsWrite = true
  queue : s.hostQueue = .command 0x80000000#32 cs :: rest
  fits : cs.length < 2 ^ 32
  noReset : s.resets = []

/-- No stall tick comes: the environment of the nominal trace (00_scope.md R13). -/
def State.Nominal (s : State) : Prop := s.stallFree = true ∧ s.stalls = []

/-- Every pin answer from here on is `Ok`: no `Drive` fails. -/
def State.PinAlwaysOk (s : State) : Prop := ∀ k, s.answerAt k = .ok

/-- Every colour sequence the host is going to lend is one the engine can be given (R198 e). -/
def State.StreamsFit (s : State) : Prop :=
  ∀ a ∈ s.hostQueue, ∀ w cs, a = .command w cs → cs.length < 2 ^ 32

/-- The place of a position within one `WRITE` as a number. DESIGN CHOICE (log 23): the order is the model's, after
10_state.md R42. `Idle < Emitting* < Latching < Done` is R42's; inside the emitting states R42 compares the raw indices
`(CI, BYI, BI, PH, HOLD)`, of which `EMIT_BYTE` takes `BI` from 7 back to 0 and `EMIT_COLOR` takes `BYI` from 2 back to 0,
so here an index that the next operation rewrites does not count; and `Aborted`, which R42 does not place, stands beside
`Done`. -/
def State.place (s : State) : Nat :=
  match s.fsm with
  | .unconstructed => 0
  | .idle => 0
  | .emittingColor => 1 + s.ci.toNat * 1000
  | .emittingByte => 1 + s.ci.toNat * 1000 + (1 + s.byi.toNat * 100)
  | .emittingBit =>
    1 + s.ci.toNat * 1000 + (2 + s.byi.toNat * 100 + s.bi.toNat * 8 + s.ph.toNat * 2 + s.hold.toNat)
  | .latching => 1 + 2 ^ 32 * 1000 + s.hold.toNat
  | .done => 1 + 2 ^ 32 * 1000 + 2
  | .aborted => 1 + 2 ^ 32 * 1000 + 2

end Sys2Proof.Machine
end

