-- ==== Sys2Proof/Certificates/Slice0/Obligations.lean ====
section
/-! DEFINITION. The statements about the engine, each from the rules of `spec/` its docstring names. Where one rests on a
choice of the model, the docstring names the log entry. -/

open Sys2Proof Sys2Proof.Machine

/-! ## Encodings -/

/-- 30_encoding.md R91, R93, R95, R99, R103: words written out from the spec's encodings, and the operations they are.
That `0x32` is read as `NEW_DEFAULT` and a symbol as `BIT0` or `BIT1` is the model's choice (log 9). -/
def Obligations.WordsOfTheSpecDecode : Prop :=
  decode .H 0x00000032 = .ok .newDefault ∧ decode .H 0x00000000 = .ok (.newIter 0) ∧
  decode .H 0x0000FFFF = .ok (.newIter 65535) ∧ decode .H 0x40000258 = .ok (.newMhz 600) ∧
  decode .H 0x80000000 = .ok .write ∧ decode .H 0xC0000000 = .reject .reservedOp ∧
  decode .H 0x00010032 = .reject .reservedBits ∧ decode .H 0x80000001 = .reject .writeArgument ∧
  decode .P 1 = .ok .driveHigh ∧ decode .P 0 = .ok .driveLow ∧ decode .U 901 = .ok (.delay 901) ∧
  decode .S 0b100 = .ok .bit0 ∧ decode .S 0b110 = .ok .bit1 ∧ decode .S 0b111 = .reject .notASymbol ∧
  decode .B 0xC3 = .ok (.emitByte 0xC3) ∧ decode .C 0x123456 = .ok (.emitColor 0x123456) ∧
  decode .F 0 = .ok .latch

/-- Decoding the word of a well-formed operation gives that operation, under the table's name for the word: no bit of an
operand is dropped (the names for shared words are log 9). -/
def Obligations.DecodeOfEncodeIsTheOperation : Prop :=
  ∀ i : Instr, i.wellFormed = true → decode i.format (encode i) = .ok i.canonical

/-- Every word has one meaning: what a word decodes to is well-formed, belongs to the word's format and has that word as
its encoding; no second word of the format has the same meaning. That it is named by `Instr.canonical`, which says which
of two rows a shared word is, is the model's choice (log 9). -/
def Obligations.EncodeOfDecodeIsTheWord : Prop :=
  ∀ (f : Format) (w : Nat) (i : Instr), decode f w = .ok i →
    i.format = f ∧ encode i = w ∧ i.wellFormed = true ∧ i.canonical = i

/-- 30_encoding.md R100: which 32-bit command words are illegal: `OP = 11`, or `RSV ≠ 0`, or `OP = 10` with `ARG ≠ 0`,
and no other. -/
def Obligations.IllegalCommandWordsAreThese : Prop :=
  ∀ w : BitVec 32, (∃ r, decode .H w.toNat = .reject r) ↔
    (w.extractLsb' 30 2 = 3 ∨ w.extractLsb' 16 14 ≠ 0 ∨ (w.extractLsb' 30 2 = 2 ∧ w.extractLsb' 0 16 ≠ 0))

/-- 41_bit_encoder.md R143, R144, 43_host_operations.md R194: the name the decoder gives an operation's word (log 9) means
what the operation means: no meaning is lost by the choice of a name. -/
def Obligations.OtherNamesMeanTheSame : Prop :=
  ∀ (i j : Instr) (s : State), i.wellFormed = true → decode i.format (encode i) = .ok j → exec j s = exec i s

/-! ## Calibration arithmetic -/

/-- 10_state.md R22: `latch_iter(c)` is the least `n` with `n × PHASE_NS ≥ LATCH_NS × c`, and the rule's values. -/
def Obligations.LatchIterIsTheLeastCount : Prop :=
  (∀ c : Nat, latchIter c = (6000 * c + 332) / 333 ∧ 6000 * c ≤ latchIter c * 333 ∧
    ∀ n, 6000 * c ≤ n * 333 → latchIter c ≤ n) ∧
  latchIter 0 = 0 ∧ latchIter 1 = 19 ∧ latchIter 2 = 37 ∧ latchIter 42 = 757 ∧ latchIter 50 = 901 ∧
  latchIter 60 = 1082 ∧ latchIter 65535 = 1180811

/-- 43_host_operations.md R192, R193: the two formulas for every argument, and the rules' values; `iter_from_ps(0)` has no
result. -/
def Obligations.CalibrationFormulas : Prop :=
  (∀ f : Nat, iterFromMhz f = (333 * f + 2000) / 4000) ∧
  (∀ cpl f : Nat, iterFromMhzAt cpl f = (333 * f + 500 * cpl) / (1000 * cpl)) ∧
  (∀ p : Nat, 0 < p → iterFromPs p = some ((333000 + p / 2) / p)) ∧ iterFromPs 0 = none ∧
  [0, 6, 7, 500, 528, 600, 700, 720, 1000, 65535].map iterFromMhz = [0, 0, 1, 42, 44, 50, 58, 60, 83, 5456] ∧
  [500, 600, 720].map (iterFromMhzAt 5) = [33, 40, 48] ∧ [500, 600, 720].map (iterFromMhzAt 6) = [28, 33, 40] ∧
  [6667, 8000, 5556, 333000, 666001].map iterFromPs = [some 50, some 42, some 60, some 1, some 0]

/-- The operand of the latch's delay holds the whole count: nothing wraps (00_scope.md R10, 30_encoding.md R98). -/
def Obligations.LatchDelayHoldsTheCount : Prop :=
  ∀ cal : BitVec 16, (latchDelay cal).toNat = (6000 * cal.toNat + 332) / 333

/-- 43_host_operations.md R200: the iteration count does not fall as the clock gets faster, does not rise with the cycles
of an iteration, and `iter_from_ps` does not rise with the time of an iteration. -/
def Obligations.CalibrationIsMonotone : Prop :=
  (∀ cpl f g : Nat, f ≤ g → iterFromMhzAt cpl f ≤ iterFromMhzAt cpl g) ∧
  (∀ cpl cpl' f : Nat, 0 < cpl → cpl ≤ cpl' → iterFromMhzAt cpl' f ≤ iterFromMhzAt cpl f) ∧
  (∀ p q m n : Nat, p ≤ q → iterFromPs p = some m → iterFromPs q = some n → n ≤ m)

/-! ## Host operations -/

/-- 43_host_operations.md R190: `NEW_ITER n` constructs in `Unconstructed` and is refused in every other state; nothing
else changes. -/
def Obligations.NewIterConstructsOrIsRefused : Prop :=
  ∀ (n : Nat) (s : State), n < 2 ^ 16 →
    encode (.newIter n) = n ∧ (BitVec.ofNat 16 n).toNat = n ∧
    (s.fsm = .unconstructed → exec (.newIter n) s =
      .next { s with cal := BitVec.ofNat 16 n, fsm := .idle, constructed := true }) ∧
    (s.fsm ≠ .unconstructed → exec (.newIter n) s = .next { s with cmderr := true })

/-- 43_host_operations.md R191, R192: `NEW_MHZ f` constructs with `(333 f + 2000) div 4000`, which fits 16 bits, in
`Unconstructed`, and is refused in every other state; nothing else changes: it is in every respect a `NEW_ITER` of that
count. -/
def Obligations.NewMhzConstructsOrIsRefused : Prop :=
  ∀ (f : Nat) (s : State), f < 2 ^ 16 →
    encode (.newMhz f) = 0x40000000 + f ∧
    (BitVec.ofNat 16 ((333 * f + 2000) / 4000)).toNat = (333 * f + 2000) / 4000 ∧
    exec (.newMhz f) s = exec (.newIter ((333 * f + 2000) / 4000)) s ∧
    (s.fsm = .unconstructed → exec (.newMhz f) s =
      .next { s with cal := BitVec.ofNat 16 ((333 * f + 2000) / 4000), fsm := .idle, constructed := true }) ∧
    (s.fsm ≠ .unconstructed → exec (.newMhz f) s = .next { s with cmderr := true })

/-- 43_host_operations.md R194: `NEW_DEFAULT` is `NEW_ITER 50`, the word `0x00000032`, and the same as `NEW_MHZ 600`: it
constructs with 50 in `Unconstructed` and is refused in every other state; nothing else changes. -/
def Obligations.NewDefaultConstructsOrIsRefused : Prop :=
  ∀ s : State, encode .newDefault = 0x00000032 ∧
    exec .newDefault s = exec (.newIter 50) s ∧ exec .newDefault s = exec (.newMhz 600) s ∧
    (s.fsm = .unconstructed → exec .newDefault s = .next { s with cal := 50, fsm := .idle, constructed := true }) ∧
    (s.fsm ≠ .unconstructed → exec .newDefault s = .next { s with cmderr := true })

/-- 42_frame_sequencer.md R161, 43_host_operations.md R195: a `WRITE` in `Idle`, `Done` or `Aborted` starts a frame; an
empty sequence goes straight to the latch; nothing but the listed registers changes and there is no event. In
`Unconstructed` it is refused (R198 a); that it is refused in the transmitting states too, where the port takes no word and
no run executes one (R198 d), is the model's (log 13). -/
def Obligations.WriteStartsAFrameOrIsRefused : Prop :=
  ∀ s : State,
    ((s.fsm = .idle ∨ s.fsm = .done ∨ s.fsm = .aborted) → s.seq.length < 2 ^ 32 → exec .write s =
      .next { s with
        ci := 0, byi := 0, bi := 0, ph := 1, hold := false, dly := 0, done := false, err := false, busy := true
        fsm := if s.seq = [] then .latching else .emittingColor }) ∧
    (¬(s.fsm = .idle ∨ s.fsm = .done ∨ s.fsm = .aborted) → exec .write s = .next { s with cmderr := true })

/-- 43_host_operations.md R198 (e), V5: a sequence of `2^32` colours or more is not one the engine can be given: the
model refuses the `WRITE` that would start it (that it stops there is the model's choice, log 8). -/
def Obligations.TooLongStreamIsRefused : Prop :=
  ∀ s : State, (s.fsm = .idle ∨ s.fsm = .done ∨ s.fsm = .aborted) → 2 ^ 32 ≤ s.seq.length →
    exec .write s = .refused .streamTooLong

/-! ## Micro-operations -/

/-- 41_bit_encoder.md R140, 60_exceptions.md R222: `DRIVE_HIGH` asks the pin once; on `Ok` the pin is high and nothing
else changes; on `Err(e)` the transmit is aborted with every register R222 names, the position kept; an infallible pin
never errs. -/
def Obligations.DriveHighAsksThePin : Prop :=
  ∀ s : State,
    (s.answerAt 0 = .ok → exec .driveHigh s =
      .next { s with
        pin := .driven true, log := .drive true .ok :: s.log
        pinScript := s.pinScript.tail, pinAsked := s.pinAsked + 1 }) ∧
    (∀ e, s.answerAt 0 = .err e → exec .driveHigh s =
      .next { s with
        pin := .unknown, errinfo := e, err := true, busy := false, hold := false, dly := 0, fsm := .aborted
        log := .result (.err e) :: .drive true (.err e) :: s.log
        pinScript := s.pinScript.tail, pinAsked := s.pinAsked + 1 }) ∧
    (s.pinFallible = false → s.answerAt 0 = .ok)

/-- 41_bit_encoder.md R141, 60_exceptions.md R222: `DRIVE_LOW`, likewise. -/
def Obligations.DriveLowAsksThePin : Prop :=
  ∀ s : State,
    (s.answerAt 0 = .ok → exec .driveLow s =
      .next { s with
        pin := .driven false, log := .drive false .ok :: s.log
        pinScript := s.pinScript.tail, pinAsked := s.pinAsked + 1 }) ∧
    (∀ e, s.answerAt 0 = .err e → exec .driveLow s =
      .next { s with
        pin := .unknown, errinfo := e, err := true, busy := false, hold := false, dly := 0, fsm := .aborted
        log := .result (.err e) :: .drive false (.err e) :: s.log
        pinScript := s.pinScript.tail, pinAsked := s.pinAsked + 1 }) ∧
    (s.pinFallible = false → s.answerAt 0 = .ok)

/-- 40_delay_primitive.md R120: the engine steps of `DELAY n`: the start; a tick while `DLY > 0`; the end, without a
tick. Nothing else changes. -/
def Obligations.DelayStepByStep : Prop :=
  ∀ (n : Nat) (s : State), n < 2 ^ 32 →
    (s.hold = false → exec (.delay n) s = .next { s with dly := BitVec.ofNat 32 n, hold := true }) ∧
    (s.hold = true → s.dly ≠ 0 → exec (.delay n) s =
      .next { s with dly := s.dly - 1, log := .tick s.pin :: s.log }) ∧
    (s.hold = true → s.dly = 0 → exec (.delay n) s = .next { s with hold := false })

/-- 40_delay_primitive.md R120, R124: a whole `DELAY n` is `n + 2` engine steps and `n` ticks at the pin's level; it
leaves `DLY = 0`, `HOLD = 0` and changes nothing else. -/
def Obligations.DelayTakesItsTicks : Prop :=
  ∀ (n : Nat) (s : State), n < 2 ^ 32 → s.hold = false →
    repeated (exec (.delay n)) (n + 2) s =
      .next { s with dly := 0, hold := false, log := List.replicate n (.tick s.pin) ++ s.log }

/-! ## The bit encoder -/

/-- 42_frame_sequencer.md R164, the pin answering `Ok`: the phase action of `EMIT_BIT b`, and so of `BIT0` and `BIT1`,
and the start of the phase's hold. -/
def Obligations.BitPhaseActionThenHold : Prop :=
  ∀ (i : Instr) (b : Bool) (s : State),
    (i = .emitBit b ∨ (i = .bit0 ∧ b = false) ∨ (i = .bit1 ∧ b = true)) →
    s.fsm = .emittingBit → s.hold = false →
    (s.ph = 1 → s.answerAt 0 = .ok → exec i s =
      .next { s with
        pin := .driven true, log := .drive true .ok :: s.log
        pinScript := s.pinScript.tail, pinAsked := s.pinAsked + 1
        dly := BitVec.setWidth 32 s.cal, hold := true }) ∧
    (s.ph = 2 → b = true → exec i s = .next { s with dly := BitVec.setWidth 32 s.cal, hold := true }) ∧
    ((s.ph = 2 ∧ b = false ∨ s.ph = 3) → s.answerAt 0 = .ok → exec i s =
      .next { s with
        pin := .driven false, log := .drive false .ok :: s.log
        pinScript := s.pinScript.tail, pinAsked := s.pinAsked + 1
        dly := BitVec.setWidth 32 s.cal, hold := true })

/-- 42_frame_sequencer.md R164, 60_exceptions.md R221, R222: where a phase of a bit asks the pin and it answers `Err(e)`,
the step is the abort, and `CI`, `BYI`, `BI`, `PH` keep the position. -/
def Obligations.BitPhaseFailureAborts : Prop :=
  ∀ (i : Instr) (b : Bool) (s : State) (e : Word),
    (i = .emitBit b ∨ (i = .bit0 ∧ b = false) ∨ (i = .bit1 ∧ b = true)) →
    s.fsm = .emittingBit → s.hold = false → (s.ph = 1 ∨ (s.ph = 2 ∧ b = false) ∨ s.ph = 3) →
    s.answerAt 0 = .err e → exec i s =
      .next { s with
        pin := .unknown, errinfo := e, err := true, busy := false, hold := false, dly := 0, fsm := .aborted
        log := .result (.err e) :: .drive (s.ph == 1) (.err e) :: s.log
        pinScript := s.pinScript.tail, pinAsked := s.pinAsked + 1 }

/-- 42_frame_sequencer.md R164, 40_delay_primitive.md R120: while a phase is held with `DLY > 0`, the step of a bit is
one tick. -/
def Obligations.BitHoldTicks : Prop :=
  ∀ (i : Instr) (b : Bool) (s : State),
    (i = .emitBit b ∨ (i = .bit0 ∧ b = false) ∨ (i = .bit1 ∧ b = true)) →
    s.fsm = .emittingBit → s.hold = true → s.dly ≠ 0 →
    exec i s = .next { s with dly := s.dly - 1, log := .tick s.pin :: s.log }

/-- 42_frame_sequencer.md R165: the end of a hold in `EmittingBit`, its five cases, for `EMIT_BIT`, `BIT0` and `BIT1`;
no event and nothing else changes. -/
def Obligations.BitHoldEndAdvances : Prop :=
  ∀ (i : Instr) (b : Bool) (s : State),
    (i = .emitBit b ∨ (i = .bit0 ∧ b = false) ∨ (i = .bit1 ∧ b = true)) →
    s.fsm = .emittingBit → s.hold = true → s.dly = 0 →
    (s.ph.toNat < 3 → exec i s = .next { s with hold := false, ph := s.ph + 1 }) ∧
    (s.ph = 3 → s.bi.toNat < 7 → exec i s = .next { s with hold := false, ph := 1, bi := s.bi + 1 }) ∧
    (s.ph = 3 → s.bi = 7 → s.byi.toNat < 2 → exec i s =
      .next { s with hold := false, ph := 1, byi := s.byi + 1, fsm := .emittingByte }) ∧
    (s.ph = 3 → s.bi = 7 → 2 ≤ s.byi.toNat → s.ci.toNat + 1 < s.seq.length → exec i s =
      .next { s with hold := false, ph := 1, ci := s.ci + 1, fsm := .emittingColor }) ∧
    (s.ph = 3 → s.bi = 7 → 2 ≤ s.byi.toNat → s.seq.length ≤ s.ci.toNat + 1 → exec i s =
      .next { s with hold := false, ph := 1, fsm := .latching })

/-- 41_bit_encoder.md R142, R149: a whole bit from phase 1, the pin answering `Ok`: `3 (CAL + 2)` engine steps whose
events are those of `BitOps(b)`, `3 CAL` ticks among them; it ends with the pin low and, as R165 says, at phase 1 of the
next bit, or before the next byte, the next colour or the latch. -/
def Obligations.WholeBitRunsItsOpList : Prop :=
  ∀ (i : Instr) (b : Bool) (s : State),
    (i = .emitBit b ∨ (i = .bit0 ∧ b = false) ∨ (i = .bit1 ∧ b = true)) →
    s.fsm = .emittingBit → s.hold = false → s.ph = 1 → s.PinAlwaysOk →
    ∃ t, repeated (exec i) (3 * (s.cal.toNat + 2)) s = .next t ∧
      t.trace ++ [.result .ok] = s.trace ++ runOps (fun _ => .ok) 0 s.pin (bitOps s.cal.toNat b) ∧
      t.pin = .driven false ∧ t.hold = false ∧ t.dly = 0 ∧ t.ph = 1 ∧
      (s.bi.toNat < 7 → t.fsm = .emittingBit ∧ t.bi = s.bi + 1 ∧ t.byi = s.byi ∧ t.ci = s.ci) ∧
      (s.bi = 7 → s.byi.toNat < 2 → t.fsm = .emittingByte ∧ t.bi = 7 ∧ t.byi = s.byi + 1 ∧ t.ci = s.ci) ∧
      (s.bi = 7 → 2 ≤ s.byi.toNat → s.ci.toNat + 1 < s.seq.length →
        t.fsm = .emittingColor ∧ t.bi = 7 ∧ t.byi = s.byi ∧ t.ci = s.ci + 1) ∧
      (s.bi = 7 → 2 ≤ s.byi.toNat → s.seq.length ≤ s.ci.toNat + 1 →
        t.fsm = .latching ∧ t.bi = 7 ∧ t.byi = s.byi ∧ t.ci = s.ci)

/-- 41_bit_encoder.md R146: the nominal waveform of a bit is high for `2 CAL` ticks and low for `CAL` if it is 1, high
for `CAL` and low for `2 CAL` if it is 0. -/
def Obligations.BitWaveformRatio : Prop :=
  ∀ (cal : Nat) (b : Bool) (p : PinLevel),
    waveform (runOps (fun _ => .ok) 0 p (bitOps cal b)) =
      List.replicate (if b then 2 * cal else cal) (.driven true) ++
      List.replicate (if b then cal else 2 * cal) (.driven false)

/-- 41_bit_encoder.md R145: a bit that starts low has two edges, one that starts high has one; two requests for a 1 and
three for a 0; exactly three delays, each of `CAL`. -/
def Obligations.BitCounts : Prop :=
  ∀ (cal : Nat) (b l : Bool),
    edges l (runOps (fun _ => .ok) 0 (.driven l) (bitOps cal b)) = (if l then 1 else 2) ∧
    requests (runOps (fun _ => .ok) 0 (.driven l) (bitOps cal b)) = (if b then 2 else 3) ∧
    (bitOps cal b).count (.delay cal) = 3 ∧ delays (bitOps cal b) = 3

/-! ## The frame sequencer -/

/-- 42_frame_sequencer.md R162, R163: `EMIT_COLOR` loads `COLOR` and goes to its first byte; `EMIT_BYTE` loads `BYTE` and
goes to the first phase of its first bit; nothing else changes. -/
def Obligations.EmitColorAndEmitByteLoad : Prop :=
  (∀ (c : Colour) (s : State), s.fsm = .emittingColor →
    exec (.emitColor c) s = .next { s with color := c, byi := 0, fsm := .emittingByte }) ∧
  (∀ (y : Byte) (s : State), s.fsm = .emittingByte →
    exec (.emitByte y) s = .next { s with byte := y, bi := 0, ph := 1, hold := false, fsm := .emittingBit })

/-- 42_frame_sequencer.md R166, R167, 40_delay_primitive.md R120: the engine steps of `LATCH`: drive low and start the
hold of `latch_iter(CAL)` ticks, or abort; a tick while `DLY > 0`; then `Done` with `Result(Ok)`. Nothing else changes. -/
def Obligations.LatchStepByStep : Prop :=
  ∀ s : State, s.fsm = .latching →
    latchOps s.cal.toNat = [.drive false, .delay ((6000 * s.cal.toNat + 332) / 333)] ∧
    (s.hold = false → s.answerAt 0 = .ok → exec .latch s =
      .next { s with
        pin := .driven false, log := .drive false .ok :: s.log
        pinScript := s.pinScript.tail, pinAsked := s.pinAsked + 1
        dly := BitVec.ofNat 32 ((6000 * s.cal.toNat + 332) / 333), hold := true }) ∧
    (∀ e, s.hold = false → s.answerAt 0 = .err e → exec .latch s =
      .next { s with
        pin := .unknown, errinfo := e, err := true, busy := false, hold := false, dly := 0, fsm := .aborted
        log := .result (.err e) :: .drive false (.err e) :: s.log
        pinScript := s.pinScript.tail, pinAsked := s.pinAsked + 1 }) ∧
    (s.hold = true → s.dly ≠ 0 → exec .latch s =
      .next { s with dly := s.dly - 1, log := .tick s.pin :: s.log }) ∧
    (s.hold = true → s.dly = 0 → exec .latch s =
      .next { s with hold := false, fsm := .done, done := true, busy := false, log := .result .ok :: s.log })

/-- 42_frame_sequencer.md R166, R167: a whole latch, the pin answering `Ok`: one request, `latch_iter(CAL)` ticks low,
`Result(Ok)`, and the engine is `Done`. -/
def Obligations.WholeLatchHoldsLowThenDone : Prop :=
  ∀ s : State, s.fsm = .latching → s.hold = false → s.answerAt 0 = .ok →
    repeated (exec .latch) ((6000 * s.cal.toNat + 332) / 333 + 2) s =
      .next { s with
        fsm := .done, hold := false, dly := 0, pin := .driven false, done := true, busy := false
        pinScript := s.pinScript.tail, pinAsked := s.pinAsked + 1
        log := .result .ok :: (List.replicate ((6000 * s.cal.toNat + 332) / 333) (.tick (.driven false)) ++
          .drive false .ok :: s.log) }

/-- 20_memory.md R64, R65: the op list of a colour is that of its bits in the order `c[15] … c[8]`, `c[23] … c[16]`,
`c[7] … c[0]`: green, red, blue, each most significant bit first. -/
def Obligations.ColourBitsLeaveInOrder : Prop :=
  ∀ (cal : Nat) (c : Colour), colorOps cal c =
    ([15, 14, 13, 12, 11, 10, 9, 8, 23, 22, 21, 20, 19, 18, 17, 16, 7, 6, 5, 4, 3, 2, 1, 0].map
      fun k => c.getLsbD k).flatMap (bitOps cal)

/-- 42_frame_sequencer.md R169: in the op list of a frame with a colour, the latch follows the hold of the last bit's
phase 3, which the pin entered low; no `Drive 1` lies between. -/
def Obligations.LatchFollowsTheLastBit : Prop :=
  ∀ (cal : Nat) (cs : List Colour), cs ≠ [] →
    ∃ before, frameOps cal cs =
      before ++ [.drive false, .delay cal] ++ [.drive false, .delay (latchIter cal)]

/-! ## What the step does around an operation -/

/-- 42_frame_sequencer.md R162 to R166: the word at a busy engine's position: the low 24 bits of the colour-port word at
`CI` (20_memory.md R67), the byte `sel(COLOR, BYI)`, the symbol of the bit `BYTE[7 − BI]`, the latch. -/
def Obligations.PositionSaysTheOperation : Prop :=
  ∀ s : State,
    (∀ v, s.fsm = .emittingColor → s.seq[s.ci.toNat]? = some v → s.fetch = .word .C (v.toNat % 2 ^ 24)) ∧
    (s.fsm = .emittingByte → s.byi = 0 → s.fetch = .word .B (s.color.toNat / 2 ^ 8 % 2 ^ 8)) ∧
    (s.fsm = .emittingByte → s.byi = 1 → s.fetch = .word .B (s.color.toNat / 2 ^ 16)) ∧
    (s.fsm = .emittingByte → s.byi = 2 → s.fetch = .word .B (s.color.toNat % 2 ^ 8)) ∧
    (s.fsm = .emittingBit → s.fetch = .word .S (if s.byte.getLsbD (7 - s.bi.toNat) then 0b110 else 0b100)) ∧
    (s.fsm = .latching → s.fetch = .word .F 0)

/-- A step of a busy engine, where no reset event and no stall tick is due, is the operation its position says; around
it the step counts down the reset input and uses up the environment's choice of stall ticks (log 5, 15). -/
def Obligations.EngineStepRunsItsOperation : Prop :=
  ∀ (s : State) (f : Format) (w : Nat) (i : Instr),
    s.resetDue = false → s.busy = true → s.stallDue = 0 → s.fetch = .word f w → decode f w = .ok i →
    step s = exec i s.countReset.stallSpent

/-- 30_encoding.md R99, R100: a step of an engine that is not busy takes the host's next command word: a legal one is
executed with its sequence on the colour stream; an illegal one sets `CMDERR` and changes nothing else of the engine. -/
def Obligations.CommandStepRunsTheWord : Prop :=
  ∀ (s : State) (w : Word) (cs : List Word) (rest : List HostAction),
    s.resetDue = false → s.busy = false → s.hostQueue = .command w cs :: rest →
    (∀ i, decode .H w.toNat = .ok i → step s = exec i { s.countReset with hostQueue := rest, seq := cs }) ∧
    (∀ r, decode .H w.toNat = .reject r →
      step s = .next { s.countReset with hostQueue := rest, seq := cs, cmderr := true })

/-- 42_frame_sequencer.md R175: a stall step emits `Tick(PIN)` and changes no engine state; one stall tick fewer is due
after it. -/
def Obligations.StallStepOnlyTakesTime : Prop :=
  ∀ s : State, s.resetDue = false → s.busy = true → s.stallDue ≠ 0 →
    ∃ t, step s = .next t ∧ t.stallDue + 1 = s.stallDue ∧
      t = { s with
        log := .tick s.pin :: s.log, resets := t.resets, stalls := t.stalls, stallDraws := t.stallDraws }

/-- 70_reset_and_hazards.md R250: a reset event, in any state and whether the reset input or the host makes it, puts
every register the spec gives a reset value at that value, forgets the pin, and emits nothing. What stays is the
surroundings' own (log 15). -/
def Obligations.ResetEventInAnyState : Prop :=
  ∀ s : State, (s.resetDue = true ∨ (s.busy = false ∧ ∃ rest, s.hostQueue = .reset :: rest)) →
    ∃ t, step s = .next t ∧
      t.fsm = .unconstructed ∧ t.cal = 50 ∧ t.ci = 0 ∧ t.byi = 0 ∧ t.bi = 0 ∧ t.ph = 1 ∧ t.hold = false ∧
      t.dly = 0 ∧ t.pin = .unknown ∧ t.constructed = false ∧ t.busy = false ∧ t.done = false ∧ t.err = false ∧
      t.cmderr = false ∧ t.errinfo = 0 ∧ t.log = s.log

/-- 10_state.md R40: the state after reset has the values of the table. -/
def Obligations.ResetStateHasTheTableValues : Prop :=
  State.reset.fsm = .unconstructed ∧ State.reset.cal = 50 ∧ State.reset.ci = 0 ∧ State.reset.byi = 0 ∧
  State.reset.bi = 0 ∧ State.reset.ph = 1 ∧ State.reset.hold = false ∧ State.reset.dly = 0 ∧
  State.reset.pin = .unknown ∧ State.reset.constructed = false ∧ State.reset.busy = false ∧
  State.reset.done = false ∧ State.reset.err = false ∧ State.reset.cmderr = false ∧ State.reset.errinfo = 0

/-- 43_host_operations.md R198 (d), 10_state.md R33: while `BUSY = 1` no step takes anything from the host, and none
touches `CMDERR` unless the reset input fires. -/
def Obligations.PortClosedWhileBusy : Prop :=
  ∀ s t : State, s.busy = true → step s = .next t →
    t.hostQueue = s.hostQueue ∧ (s.resetDue = false → t.cmderr = s.cmderr ∧ t.seq = s.seq)

/-- 42_frame_sequencer.md R167: an engine that is not busy has no step of its own: with nothing from the host and no reset
to come, nothing changes (that the step goes on is the model's choice, log 14). -/
def Obligations.IdleEngineWaits : Prop :=
  ∀ s : State, s.busy = false → s.hostQueue = [] → s.resets = [] → step s = .next s

/-! ## Registers the host reads -/

/-- 10_state.md R32, R38: `STATUS` shows its five flags in bits 0 to 4 and zero in bits 31:5; CSR 0 is `CAL`, CSR 1
`STATUS`, CSR 2 `ERRINFO`, and there is no other. -/
def Obligations.HostReadsThreeRegisters : Prop :=
  ∀ s : State,
    s.statusWord.getLsbD 0 = s.constructed ∧ s.statusWord.getLsbD 1 = s.busy ∧ s.statusWord.getLsbD 2 = s.done ∧
    s.statusWord.getLsbD 3 = s.err ∧ s.statusWord.getLsbD 4 = s.cmderr ∧
    (∀ k, 5 ≤ k → s.statusWord.getLsbD k = false) ∧
    (s.readCsr 0).map BitVec.toNat = some s.cal.toNat ∧ s.readCsr 1 = some s.statusWord ∧
    s.readCsr 2 = some s.errinfo ∧ ∀ n, 3 ≤ n → s.readCsr n = none

/-! ## Rules about every step -/

/-- The invariants of 10_state.md R43 hold after reset. -/
def Obligations.ResetMeetsTheInvariants : Prop := State.reset.Inv

/-- 10_state.md R43: every step keeps the invariants, from every state that meets them. -/
def Obligations.StepKeepsTheInvariants : Prop :=
  ∀ s t : State, s.Inv → step s = .next t → t.Inv

/-- From a state that meets the invariants, with no sequence of `2^32` colours or more to come, a step always answers a
next state: the named faults stand for positions that do not occur (log 7, 8). -/
def Obligations.NoStopUnderTheInvariants : Prop :=
  ∀ s : State, s.Inv → s.StreamsFit → ∃ t, step s = .next t ∧ t.StreamsFit

/-- 10_state.md R21, 43_host_operations.md R199, R201: once constructed, `CAL` changes in no step but a reset, which alone
leads back to `Unconstructed`; a further construction is refused. -/
def Obligations.CalibrationNeverChanges : Prop :=
  (∀ s t : State, s.fsm ≠ .unconstructed → step s = .next t →
    (t.fsm ≠ .unconstructed → t.cal = s.cal) ∧
    (t.fsm = .unconstructed →
      s.resetDue = true ∨ (s.busy = false ∧ s.hostQueue.head? = some .reset))) ∧
  (∀ (s : State) (n : Nat), s.fsm ≠ .unconstructed →
    exec (.newIter n) s = .next { s with cmderr := true } ∧ exec (.newMhz n) s = .next { s with cmderr := true })

/-- 10_state.md R36, 60_exceptions.md R233: `CMDERR` is never cleared except by reset. -/
def Obligations.CommandErrorIsSticky : Prop :=
  ∀ s t : State, s.cmderr = true → step s = .next t →
    t.cmderr = true ∨ s.resetDue = true ∨ (s.busy = false ∧ s.hostQueue.head? = some .reset)

/-- 10_state.md R31: a step that is no reset changes `PIN` only by one `PinSet`: to the level asked when it answers `Ok`,
to `unknown` when it answers `Err`. -/
def Obligations.OnlyPinSetChangesThePin : Prop :=
  ∀ s t : State, s.resetDue = false → (s.busy = false → s.hostQueue.head? ≠ some .reset) → step s = .next t →
    t.pin = s.pin ∨
    (∃ l, s.answerAt 0 = .ok ∧ t.pin = .driven l ∧ t.log = .drive l .ok :: s.log) ∨
    (∃ l e, s.answerAt 0 = .err e ∧ t.pin = .unknown ∧ t.log = .result (.err e) :: .drive l (.err e) :: s.log)

/-- 60_exceptions.md R221, R222: a step enters `Aborted` only from a busy engine whose `PinSet` answered `Err(e)`; then
`ERR` is set, `ERRINFO` is `e`, and `CI`, `BYI`, `BI`, `PH` are as they were. -/
def Obligations.AbortOnlyByThePin : Prop :=
  ∀ s t : State, s.fsm ≠ .aborted → step s = .next t → t.fsm = .aborted →
    s.busy = true ∧ (s.fsm = .emittingBit ∨ s.fsm = .latching) ∧
    ∃ l e, s.answerAt 0 = .err e ∧ t.log = .result (.err e) :: .drive l (.err e) :: s.log ∧ t.errinfo = e ∧
      t.err = true ∧ t.busy = false ∧ t.ci = s.ci ∧ t.byi = s.byi ∧ t.bi = s.bi ∧ t.ph = s.ph

/-- 60_exceptions.md R227: with an infallible pin no step sets `ERR` or enters `Aborted`, and the pin stays
infallible. -/
def Obligations.InfalliblePinNeverAborts : Prop :=
  ∀ s t : State, s.pinFallible = false → s.err = false → s.fsm ≠ .aborted → step s = .next t →
    t.pinFallible = false ∧ t.err = false ∧ t.fsm ≠ .aborted

/-- After 10_state.md R42, in the order `State.place`, which is the model's and not R42's lexicographic one (log 23): by
the steps of 42_frame_sequencer.md R161 to R167, within one `WRITE` no step moves the position backwards, and only a tick,
which brings the hold nearer to its end, leaves it where it is. -/
def Obligations.PositionNeverMovesBack : Prop :=
  ∀ s t : State, s.Inv → s.busy = true → s.resetDue = false → step s = .next t →
    s.place < t.place ∨
    (s.place = t.place ∧
      ((s.stallDue = 0 ∧ t.dly.toNat + 1 = s.dly.toNat) ∨ (t.stallDue + 1 = s.stallDue ∧ t.dly = s.dly)))

/-- A step never unsays an event (00_scope.md R13). It adds at most two, the request and the result of an abort
(60_exceptions.md R222), and at most one tick (40_delay_primitive.md R120, 42_frame_sequencer.md R175); that a stall tick
and an engine step are two steps is the model's reading (log 21). -/
def Obligations.TraceOnlyGrows : Prop :=
  ∀ s t : State, step s = .next t →
    ∃ new, t.log = new ++ s.log ∧ new.length ≤ 2 ∧ (waveform new).length ≤ 1

/-! ## Whole frames -/

/-- 42_frame_sequencer.md R173, R168, in the nominal environment: from the acceptance of `WRITE cs` the small steps end in
`Done` or `Aborted`, and the events on the way are exactly those of running `FrameOps(cs)` against the same pin, whatever
it answers. -/
def Obligations.FrameAgreesWithItsOpList : Prop :=
  ∀ (s : State) (cs : List Word) (rest : List HostAction), s.AboutToWrite cs rest → s.Nominal →
    ∃ t, Leads s t ∧ (t.fsm = .done ∨ t.fsm = .aborted) ∧ t.busy = false ∧ t.hostQueue = rest ∧
      t.trace = s.trace ++ runOps s.answerAt 0 s.pin (frameOps s.cal.toNat (cs.map portColour))

/-- 42_frame_sequencer.md R173, R168, R175, 40_delay_primitive.md R122, for every sequence, `CAL`, sequence of answers and
placement of stall ticks: the small steps end in `Done` or `Aborted`, and the events on the way are exactly those of
running `FrameOps(cs)` with the same stall ticks in the same places (`State.frameStalls`; that the environment chooses
before each engine step is log 5). So the trace is the nominal one with ticks put in, and its `Drive` and `Result` events
are the nominal ones in their order. -/
def Obligations.StallsLengthenNeverReorder : Prop :=
  ∀ (s : State) (cs : List Word) (rest : List HostAction), s.AboutToWrite cs rest →
    ∃ t events, Leads s t ∧ (t.fsm = .done ∨ t.fsm = .aborted) ∧ t.busy = false ∧ t.hostQueue = rest ∧
      t.trace = s.trace ++ events ∧
      events = runStalled s.answerAt 0 s.pin (s.frameStalls (cs.map portColour))
        (frameOps s.cal.toNat (cs.map portColour)) ∧
      (runOps s.answerAt 0 s.pin (frameOps s.cal.toNat (cs.map portColour))).Sublist events ∧
      actions events = actions (runOps s.answerAt 0 s.pin (frameOps s.cal.toNat (cs.map portColour)))

/-- 43_host_operations.md R196: exactly one `Result` ends every accepted `WRITE`: `Ok` with `DONE = 1`, `ERR = 0`, or
`Err(e)` with `ERR = 1`, `DONE = 0`, `ERRINFO = e`. -/
def Obligations.EveryWriteEndsWithOneResult : Prop :=
  ∀ (s : State) (cs : List Word) (rest : List HostAction), s.AboutToWrite cs rest →
    ∃ t events, Leads s t ∧ t.busy = false ∧ t.hostQueue = rest ∧ t.trace = s.trace ++ events ∧ results events = 1 ∧
      ((t.fsm = .done ∧ t.done = true ∧ t.err = false ∧ events.getLast? = some (.result .ok)) ∨
       (t.fsm = .aborted ∧ t.err = true ∧ t.done = false ∧ events.getLast? = some (.result (.err t.errinfo))))

/-- 43_host_operations.md R202: `WRITE []` in the nominal environment, the pin answering `Ok`: one request for low,
`latch_iter(CAL)` ticks of low, `Result(Ok)`, and no bit. -/
def Obligations.EmptyFrameIsTheLatchAlone : Prop :=
  ∀ (s : State) (rest : List HostAction), s.AboutToWrite [] rest → s.Nominal → s.answerAt 0 = .ok →
    ∃ t, Leads s t ∧ t.fsm = .done ∧ t.done = true ∧ t.pin = .driven false ∧ t.hostQueue = rest ∧
      t.trace = s.trace ++ .drive false .ok ::
        (List.replicate ((6000 * s.cal.toNat + 332) / 333) (.tick (.driven false)) ++ [.result .ok])

/-- 42_frame_sequencer.md R172: the nominal trace of a transmit of `N` colours has exactly
`72 × CAL × N + latch_iter(CAL)` ticks, and any other trace of it at least as many: the trace up to the transmit's own
`Result`, with the host's further moves still to come. -/
def Obligations.FrameLengthInTicks : Prop :=
  ∀ (s : State) (cs : List Word) (rest : List HostAction), s.AboutToWrite cs rest → s.PinAlwaysOk →
    ∃ t events, Leads s t ∧ t.fsm = .done ∧ t.trace = s.trace ++ events ∧
      t.hostQueue = rest ∧ results events = 1 ∧
      72 * s.cal.toNat * cs.length + (6000 * s.cal.toNat + 332) / 333 ≤ (waveform events).length ∧
      (s.Nominal →
        (waveform events).length = 72 * s.cal.toNat * cs.length + (6000 * s.cal.toNat + 332) / 333)

/-- 42_frame_sequencer.md R171: the number of level changes on the wire in a transmit in which no `Drive` fails, by the
level it starts at; where that level is unknown, the count is that of one of the two. -/
def Obligations.EdgesOfAFrame : Prop :=
  ∀ (s : State) (cs : List Word) (rest : List HostAction) (l : Level), s.AboutToWrite cs rest → s.PinAlwaysOk →
    (s.pin = .driven l ∨ s.pin = .unknown) →
    ∃ t events, Leads s t ∧ t.fsm = .done ∧ t.trace = s.trace ++ events ∧
      t.hostQueue = rest ∧ results events = 1 ∧
      (l = false → edges l events = 48 * cs.length) ∧
      (l = true → 0 < cs.length → edges l events = 48 * cs.length - 1) ∧
      (l = true → cs.length = 0 → edges l events = 1)

/-- 42_frame_sequencer.md R176: a transmit of `N` colours in which no `Drive` fails makes `48 × N + Z + 1` requests, `Z`
the number of 0 bits sent, and its op list has `72 × N + 1` delays. -/
def Obligations.RequestsOfAFrame : Prop :=
  ∀ (s : State) (cs : List Word) (rest : List HostAction), s.AboutToWrite cs rest → s.PinAlwaysOk →
    ∃ t events, Leads s t ∧ t.fsm = .done ∧ t.trace = s.trace ++ events ∧
      t.hostQueue = rest ∧ results events = 1 ∧
      requests events = 48 * cs.length + zeroBits (cs.map portColour) + 1 ∧
      delays (frameOps s.cal.toNat (cs.map portColour)) = 72 * cs.length + 1

/-- 20_memory.md R75, R76: what a `WRITE` sends depends on nothing an earlier one left but `CAL` and the level of the
pin: in the nominal environment, with no failure, two `WRITE`s of one sequence send the same events. -/
def Obligations.SameColoursSameTrace : Prop :=
  ∀ (s s' : State) (cs : List Word) (rest rest' : List HostAction),
    s.AboutToWrite cs rest → s'.AboutToWrite cs rest' → s.Nominal → s'.Nominal → s.PinAlwaysOk → s'.PinAlwaysOk →
    s.cal = s'.cal → s.pin = s'.pin →
    ∃ t t' events, Leads s t ∧ Leads s' t' ∧ t.fsm = .done ∧ t'.fsm = .done ∧
      t.hostQueue = rest ∧ t'.hostQueue = rest' ∧
      t.trace = s.trace ++ events ∧ t'.trace = s'.trace ++ events ∧ results events = 1

/-- 42_frame_sequencer.md R175, R173: any finite number of stall ticks may fall anywhere: for every placement `more` on the
ops of the frame there are choices of the environment, engine step by engine step (log 5), with which the small steps end
in `Done` or `Aborted` with the events of running `FrameOps(cs)` with that placement. -/
def Obligations.EveryPlacementOfStallsIsPossible : Prop :=
  ∀ (s : State) (cs : List Word) (rest : List HostAction) (more : List Nat), s.AboutToWrite cs rest →
    ∃ stalls t, Leads { s with stalls := stalls } t ∧ (t.fsm = .done ∨ t.fsm = .aborted) ∧ t.busy = false ∧
      t.hostQueue = rest ∧
      t.trace = s.trace ++ runStalled s.answerAt 0 s.pin more (frameOps s.cal.toNat (cs.map portColour))
end

