-- ==== Sys2Proof/Laws/State.lean ====
section
/-! SUPPORT. One lemma for each field of the state and each named update of it, so that no proof unfolds a record. -/

namespace Sys2Proof.Machine

/-! ### `emit` -/

@[simp] theorem State.emit_cal (s : State) (e : Event) : (s.emit e).cal = s.cal := rfl
@[simp] theorem State.emit_fsm (s : State) (e : Event) : (s.emit e).fsm = s.fsm := rfl
@[simp] theorem State.emit_ci (s : State) (e : Event) : (s.emit e).ci = s.ci := rfl
@[simp] theorem State.emit_byi (s : State) (e : Event) : (s.emit e).byi = s.byi := rfl
@[simp] theorem State.emit_bi (s : State) (e : Event) : (s.emit e).bi = s.bi := rfl
@[simp] theorem State.emit_ph (s : State) (e : Event) : (s.emit e).ph = s.ph := rfl
@[simp] theorem State.emit_hold (s : State) (e : Event) : (s.emit e).hold = s.hold := rfl
@[simp] theorem State.emit_color (s : State) (e : Event) : (s.emit e).color = s.color := rfl
@[simp] theorem State.emit_byte (s : State) (e : Event) : (s.emit e).byte = s.byte := rfl
@[simp] theorem State.emit_dly (s : State) (e : Event) : (s.emit e).dly = s.dly := rfl
@[simp] theorem State.emit_pin (s : State) (e : Event) : (s.emit e).pin = s.pin := rfl
@[simp] theorem State.emit_constructed (s : State) (e : Event) : (s.emit e).constructed = s.constructed := rfl
@[simp] theorem State.emit_busy (s : State) (e : Event) : (s.emit e).busy = s.busy := rfl
@[simp] theorem State.emit_done (s : State) (e : Event) : (s.emit e).done = s.done := rfl
@[simp] theorem State.emit_err (s : State) (e : Event) : (s.emit e).err = s.err := rfl
@[simp] theorem State.emit_cmderr (s : State) (e : Event) : (s.emit e).cmderr = s.cmderr := rfl
@[simp] theorem State.emit_errinfo (s : State) (e : Event) : (s.emit e).errinfo = s.errinfo := rfl
@[simp] theorem State.emit_seq (s : State) (e : Event) : (s.emit e).seq = s.seq := rfl
@[simp] theorem State.emit_hostQueue (s : State) (e : Event) : (s.emit e).hostQueue = s.hostQueue := rfl
@[simp] theorem State.emit_resets (s : State) (e : Event) : (s.emit e).resets = s.resets := rfl
@[simp] theorem State.emit_pinFallible (s : State) (e : Event) : (s.emit e).pinFallible = s.pinFallible := rfl
@[simp] theorem State.emit_pinScript (s : State) (e : Event) : (s.emit e).pinScript = s.pinScript := rfl
@[simp] theorem State.emit_pinAsked (s : State) (e : Event) : (s.emit e).pinAsked = s.pinAsked := rfl
@[simp] theorem State.emit_stallFree (s : State) (e : Event) : (s.emit e).stallFree = s.stallFree := rfl
@[simp] theorem State.emit_stalls (s : State) (e : Event) : (s.emit e).stalls = s.stalls := rfl
@[simp] theorem State.emit_stallDraws (s : State) (e : Event) : (s.emit e).stallDraws = s.stallDraws := rfl
@[simp] theorem State.emit_log (s : State) (e : Event) : (s.emit e).log = e :: s.log := rfl

/-! ### `refuse` -/

@[simp] theorem State.refuse_cal (s : State) : (s.refuse).cal = s.cal := rfl
@[simp] theorem State.refuse_fsm (s : State) : (s.refuse).fsm = s.fsm := rfl
@[simp] theorem State.refuse_ci (s : State) : (s.refuse).ci = s.ci := rfl
@[simp] theorem State.refuse_byi (s : State) : (s.refuse).byi = s.byi := rfl
@[simp] theorem State.refuse_bi (s : State) : (s.refuse).bi = s.bi := rfl
@[simp] theorem State.refuse_ph (s : State) : (s.refuse).ph = s.ph := rfl
@[simp] theorem State.refuse_hold (s : State) : (s.refuse).hold = s.hold := rfl
@[simp] theorem State.refuse_color (s : State) : (s.refuse).color = s.color := rfl
@[simp] theorem State.refuse_byte (s : State) : (s.refuse).byte = s.byte := rfl
@[simp] theorem State.refuse_dly (s : State) : (s.refuse).dly = s.dly := rfl
@[simp] theorem State.refuse_pin (s : State) : (s.refuse).pin = s.pin := rfl
@[simp] theorem State.refuse_constructed (s : State) : (s.refuse).constructed = s.constructed := rfl
@[simp] theorem State.refuse_busy (s : State) : (s.refuse).busy = s.busy := rfl
@[simp] theorem State.refuse_done (s : State) : (s.refuse).done = s.done := rfl
@[simp] theorem State.refuse_err (s : State) : (s.refuse).err = s.err := rfl
@[simp] theorem State.refuse_cmderr (s : State) : (s.refuse).cmderr = true := rfl
@[simp] theorem State.refuse_errinfo (s : State) : (s.refuse).errinfo = s.errinfo := rfl
@[simp] theorem State.refuse_seq (s : State) : (s.refuse).seq = s.seq := rfl
@[simp] theorem State.refuse_hostQueue (s : State) : (s.refuse).hostQueue = s.hostQueue := rfl
@[simp] theorem State.refuse_resets (s : State) : (s.refuse).resets = s.resets := rfl
@[simp] theorem State.refuse_pinFallible (s : State) : (s.refuse).pinFallible = s.pinFallible := rfl
@[simp] theorem State.refuse_pinScript (s : State) : (s.refuse).pinScript = s.pinScript := rfl
@[simp] theorem State.refuse_pinAsked (s : State) : (s.refuse).pinAsked = s.pinAsked := rfl
@[simp] theorem State.refuse_stallFree (s : State) : (s.refuse).stallFree = s.stallFree := rfl
@[simp] theorem State.refuse_stalls (s : State) : (s.refuse).stalls = s.stalls := rfl
@[simp] theorem State.refuse_stallDraws (s : State) : (s.refuse).stallDraws = s.stallDraws := rfl
@[simp] theorem State.refuse_log (s : State) : (s.refuse).log = s.log := rfl

/-! ### `asked` -/

@[simp] theorem State.asked_cal (s : State) : (s.asked).cal = s.cal := rfl
@[simp] theorem State.asked_fsm (s : State) : (s.asked).fsm = s.fsm := rfl
@[simp] theorem State.asked_ci (s : State) : (s.asked).ci = s.ci := rfl
@[simp] theorem State.asked_byi (s : State) : (s.asked).byi = s.byi := rfl
@[simp] theorem State.asked_bi (s : State) : (s.asked).bi = s.bi := rfl
@[simp] theorem State.asked_ph (s : State) : (s.asked).ph = s.ph := rfl
@[simp] theorem State.asked_hold (s : State) : (s.asked).hold = s.hold := rfl
@[simp] theorem State.asked_color (s : State) : (s.asked).color = s.color := rfl
@[simp] theorem State.asked_byte (s : State) : (s.asked).byte = s.byte := rfl
@[simp] theorem State.asked_dly (s : State) : (s.asked).dly = s.dly := rfl
@[simp] theorem State.asked_pin (s : State) : (s.asked).pin = s.pin := rfl
@[simp] theorem State.asked_constructed (s : State) : (s.asked).constructed = s.constructed := rfl
@[simp] theorem State.asked_busy (s : State) : (s.asked).busy = s.busy := rfl
@[simp] theorem State.asked_done (s : State) : (s.asked).done = s.done := rfl
@[simp] theorem State.asked_err (s : State) : (s.asked).err = s.err := rfl
@[simp] theorem State.asked_cmderr (s : State) : (s.asked).cmderr = s.cmderr := rfl
@[simp] theorem State.asked_errinfo (s : State) : (s.asked).errinfo = s.errinfo := rfl
@[simp] theorem State.asked_seq (s : State) : (s.asked).seq = s.seq := rfl
@[simp] theorem State.asked_hostQueue (s : State) : (s.asked).hostQueue = s.hostQueue := rfl
@[simp] theorem State.asked_resets (s : State) : (s.asked).resets = s.resets := rfl
@[simp] theorem State.asked_pinFallible (s : State) : (s.asked).pinFallible = s.pinFallible := rfl
@[simp] theorem State.asked_pinScript (s : State) : (s.asked).pinScript = s.pinScript.tail := rfl
@[simp] theorem State.asked_pinAsked (s : State) : (s.asked).pinAsked = s.pinAsked + 1 := rfl
@[simp] theorem State.asked_stallFree (s : State) : (s.asked).stallFree = s.stallFree := rfl
@[simp] theorem State.asked_stalls (s : State) : (s.asked).stalls = s.stalls := rfl
@[simp] theorem State.asked_stallDraws (s : State) : (s.asked).stallDraws = s.stallDraws := rfl
@[simp] theorem State.asked_log (s : State) : (s.asked).log = s.log := rfl

/-! ### `pinTakes` -/

@[simp] theorem State.pinTakes_cal (s : State) (l : Level) : (s.pinTakes l).cal = s.cal := rfl
@[simp] theorem State.pinTakes_fsm (s : State) (l : Level) : (s.pinTakes l).fsm = s.fsm := rfl
@[simp] theorem State.pinTakes_ci (s : State) (l : Level) : (s.pinTakes l).ci = s.ci := rfl
@[simp] theorem State.pinTakes_byi (s : State) (l : Level) : (s.pinTakes l).byi = s.byi := rfl
@[simp] theorem State.pinTakes_bi (s : State) (l : Level) : (s.pinTakes l).bi = s.bi := rfl
@[simp] theorem State.pinTakes_ph (s : State) (l : Level) : (s.pinTakes l).ph = s.ph := rfl
@[simp] theorem State.pinTakes_hold (s : State) (l : Level) : (s.pinTakes l).hold = s.hold := rfl
@[simp] theorem State.pinTakes_color (s : State) (l : Level) : (s.pinTakes l).color = s.color := rfl
@[simp] theorem State.pinTakes_byte (s : State) (l : Level) : (s.pinTakes l).byte = s.byte := rfl
@[simp] theorem State.pinTakes_dly (s : State) (l : Level) : (s.pinTakes l).dly = s.dly := rfl
@[simp] theorem State.pinTakes_pin (s : State) (l : Level) : (s.pinTakes l).pin = .driven l := rfl
@[simp] theorem State.pinTakes_constructed (s : State) (l : Level) : (s.pinTakes l).constructed = s.constructed := rfl
@[simp] theorem State.pinTakes_busy (s : State) (l : Level) : (s.pinTakes l).busy = s.busy := rfl
@[simp] theorem State.pinTakes_done (s : State) (l : Level) : (s.pinTakes l).done = s.done := rfl
@[simp] theorem State.pinTakes_err (s : State) (l : Level) : (s.pinTakes l).err = s.err := rfl
@[simp] theorem State.pinTakes_cmderr (s : State) (l : Level) : (s.pinTakes l).cmderr = s.cmderr := rfl
@[simp] theorem State.pinTakes_errinfo (s : State) (l : Level) : (s.pinTakes l).errinfo = s.errinfo := rfl
@[simp] theorem State.pinTakes_seq (s : State) (l : Level) : (s.pinTakes l).seq = s.seq := rfl
@[simp] theorem State.pinTakes_hostQueue (s : State) (l : Level) : (s.pinTakes l).hostQueue = s.hostQueue := rfl
@[simp] theorem State.pinTakes_resets (s : State) (l : Level) : (s.pinTakes l).resets = s.resets := rfl
@[simp] theorem State.pinTakes_pinFallible (s : State) (l : Level) : (s.pinTakes l).pinFallible = s.pinFallible := rfl
@[simp] theorem State.pinTakes_pinScript (s : State) (l : Level) : (s.pinTakes l).pinScript = s.pinScript.tail := rfl
@[simp] theorem State.pinTakes_pinAsked (s : State) (l : Level) : (s.pinTakes l).pinAsked = s.pinAsked + 1 := rfl
@[simp] theorem State.pinTakes_stallFree (s : State) (l : Level) : (s.pinTakes l).stallFree = s.stallFree := rfl
@[simp] theorem State.pinTakes_stalls (s : State) (l : Level) : (s.pinTakes l).stalls = s.stalls := rfl
@[simp] theorem State.pinTakes_stallDraws (s : State) (l : Level) : (s.pinTakes l).stallDraws = s.stallDraws := rfl
@[simp] theorem State.pinTakes_log (s : State) (l : Level) : (s.pinTakes l).log = .drive l .ok :: s.log := rfl

/-! ### `raisePinError` -/

@[simp] theorem State.raisePinError_cal (s : State) (l : Level) (e : Word) : (s.raisePinError l e).cal = s.cal := rfl
@[simp] theorem State.raisePinError_fsm (s : State) (l : Level) (e : Word) : (s.raisePinError l e).fsm = .aborted := rfl
@[simp] theorem State.raisePinError_ci (s : State) (l : Level) (e : Word) : (s.raisePinError l e).ci = s.ci := rfl
@[simp] theorem State.raisePinError_byi (s : State) (l : Level) (e : Word) : (s.raisePinError l e).byi = s.byi := rfl
@[simp] theorem State.raisePinError_bi (s : State) (l : Level) (e : Word) : (s.raisePinError l e).bi = s.bi := rfl
@[simp] theorem State.raisePinError_ph (s : State) (l : Level) (e : Word) : (s.raisePinError l e).ph = s.ph := rfl
@[simp] theorem State.raisePinError_hold (s : State) (l : Level) (e : Word) : (s.raisePinError l e).hold = false := rfl
@[simp] theorem State.raisePinError_color (s : State) (l : Level) (e : Word) : (s.raisePinError l e).color = s.color := rfl
@[simp] theorem State.raisePinError_byte (s : State) (l : Level) (e : Word) : (s.raisePinError l e).byte = s.byte := rfl
@[simp] theorem State.raisePinError_dly (s : State) (l : Level) (e : Word) : (s.raisePinError l e).dly = 0 := rfl
@[simp] theorem State.raisePinError_pin (s : State) (l : Level) (e : Word) : (s.raisePinError l e).pin = .unknown := rfl
@[simp] theorem State.raisePinError_constructed (s : State) (l : Level) (e : Word) : (s.raisePinError l e).constructed = s.constructed := rfl
@[simp] theorem State.raisePinError_busy (s : State) (l : Level) (e : Word) : (s.raisePinError l e).busy = false := rfl
@[simp] theorem State.raisePinError_done (s : State) (l : Level) (e : Word) : (s.raisePinError l e).done = s.done := rfl
@[simp] theorem State.raisePinError_err (s : State) (l : Level) (e : Word) : (s.raisePinError l e).err = true := rfl
@[simp] theorem State.raisePinError_cmderr (s : State) (l : Level) (e : Word) : (s.raisePinError l e).cmderr = s.cmderr := rfl
@[simp] theorem State.raisePinError_errinfo (s : State) (l : Level) (e : Word) : (s.raisePinError l e).errinfo = e := rfl
@[simp] theorem State.raisePinError_seq (s : State) (l : Level) (e : Word) : (s.raisePinError l e).seq = s.seq := rfl
@[simp] theorem State.raisePinError_hostQueue (s : State) (l : Level) (e : Word) : (s.raisePinError l e).hostQueue = s.hostQueue := rfl
@[simp] theorem State.raisePinError_resets (s : State) (l : Level) (e : Word) : (s.raisePinError l e).resets = s.resets := rfl
@[simp] theorem State.raisePinError_pinFallible (s : State) (l : Level) (e : Word) : (s.raisePinError l e).pinFallible = s.pinFallible := rfl
@[simp] theorem State.raisePinError_pinScript (s : State) (l : Level) (e : Word) : (s.raisePinError l e).pinScript = s.pinScript.tail := rfl
@[simp] theorem State.raisePinError_pinAsked (s : State) (l : Level) (e : Word) : (s.raisePinError l e).pinAsked = s.pinAsked + 1 := rfl
@[simp] theorem State.raisePinError_stallFree (s : State) (l : Level) (e : Word) : (s.raisePinError l e).stallFree = s.stallFree := rfl
@[simp] theorem State.raisePinError_stalls (s : State) (l : Level) (e : Word) : (s.raisePinError l e).stalls = s.stalls := rfl
@[simp] theorem State.raisePinError_stallDraws (s : State) (l : Level) (e : Word) : (s.raisePinError l e).stallDraws = s.stallDraws := rfl
@[simp] theorem State.raisePinError_log (s : State) (l : Level) (e : Word) : (s.raisePinError l e).log = .result (.err e) :: .drive l (.err e) :: s.log := rfl

/-! ### `startHold` -/

@[simp] theorem State.startHold_cal (s : State) (n : Word) : (s.startHold n).cal = s.cal := rfl
@[simp] theorem State.startHold_fsm (s : State) (n : Word) : (s.startHold n).fsm = s.fsm := rfl
@[simp] theorem State.startHold_ci (s : State) (n : Word) : (s.startHold n).ci = s.ci := rfl
@[simp] theorem State.startHold_byi (s : State) (n : Word) : (s.startHold n).byi = s.byi := rfl
@[simp] theorem State.startHold_bi (s : State) (n : Word) : (s.startHold n).bi = s.bi := rfl
@[simp] theorem State.startHold_ph (s : State) (n : Word) : (s.startHold n).ph = s.ph := rfl
@[simp] theorem State.startHold_hold (s : State) (n : Word) : (s.startHold n).hold = true := rfl
@[simp] theorem State.startHold_color (s : State) (n : Word) : (s.startHold n).color = s.color := rfl
@[simp] theorem State.startHold_byte (s : State) (n : Word) : (s.startHold n).byte = s.byte := rfl
@[simp] theorem State.startHold_dly (s : State) (n : Word) : (s.startHold n).dly = n := rfl
@[simp] theorem State.startHold_pin (s : State) (n : Word) : (s.startHold n).pin = s.pin := rfl
@[simp] theorem State.startHold_constructed (s : State) (n : Word) : (s.startHold n).constructed = s.constructed := rfl
@[simp] theorem State.startHold_busy (s : State) (n : Word) : (s.startHold n).busy = s.busy := rfl
@[simp] theorem State.startHold_done (s : State) (n : Word) : (s.startHold n).done = s.done := rfl
@[simp] theorem State.startHold_err (s : State) (n : Word) : (s.startHold n).err = s.err := rfl
@[simp] theorem State.startHold_cmderr (s : State) (n : Word) : (s.startHold n).cmderr = s.cmderr := rfl
@[simp] theorem State.startHold_errinfo (s : State) (n : Word) : (s.startHold n).errinfo = s.errinfo := rfl
@[simp] theorem State.startHold_seq (s : State) (n : Word) : (s.startHold n).seq = s.seq := rfl
@[simp] theorem State.startHold_hostQueue (s : State) (n : Word) : (s.startHold n).hostQueue = s.hostQueue := rfl
@[simp] theorem State.startHold_resets (s : State) (n : Word) : (s.startHold n).resets = s.resets := rfl
@[simp] theorem State.startHold_pinFallible (s : State) (n : Word) : (s.startHold n).pinFallible = s.pinFallible := rfl
@[simp] theorem State.startHold_pinScript (s : State) (n : Word) : (s.startHold n).pinScript = s.pinScript := rfl
@[simp] theorem State.startHold_pinAsked (s : State) (n : Word) : (s.startHold n).pinAsked = s.pinAsked := rfl
@[simp] theorem State.startHold_stallFree (s : State) (n : Word) : (s.startHold n).stallFree = s.stallFree := rfl
@[simp] theorem State.startHold_stalls (s : State) (n : Word) : (s.startHold n).stalls = s.stalls := rfl
@[simp] theorem State.startHold_stallDraws (s : State) (n : Word) : (s.startHold n).stallDraws = s.stallDraws := rfl
@[simp] theorem State.startHold_log (s : State) (n : Word) : (s.startHold n).log = s.log := rfl

/-! ### `tick` -/

@[simp] theorem State.tick_cal (s : State) : (s.tick).cal = s.cal := rfl
@[simp] theorem State.tick_fsm (s : State) : (s.tick).fsm = s.fsm := rfl
@[simp] theorem State.tick_ci (s : State) : (s.tick).ci = s.ci := rfl
@[simp] theorem State.tick_byi (s : State) : (s.tick).byi = s.byi := rfl
@[simp] theorem State.tick_bi (s : State) : (s.tick).bi = s.bi := rfl
@[simp] theorem State.tick_ph (s : State) : (s.tick).ph = s.ph := rfl
@[simp] theorem State.tick_hold (s : State) : (s.tick).hold = s.hold := rfl
@[simp] theorem State.tick_color (s : State) : (s.tick).color = s.color := rfl
@[simp] theorem State.tick_byte (s : State) : (s.tick).byte = s.byte := rfl
@[simp] theorem State.tick_dly (s : State) : (s.tick).dly = s.dly - 1 := rfl
@[simp] theorem State.tick_pin (s : State) : (s.tick).pin = s.pin := rfl
@[simp] theorem State.tick_constructed (s : State) : (s.tick).constructed = s.constructed := rfl
@[simp] theorem State.tick_busy (s : State) : (s.tick).busy = s.busy := rfl
@[simp] theorem State.tick_done (s : State) : (s.tick).done = s.done := rfl
@[simp] theorem State.tick_err (s : State) : (s.tick).err = s.err := rfl
@[simp] theorem State.tick_cmderr (s : State) : (s.tick).cmderr = s.cmderr := rfl
@[simp] theorem State.tick_errinfo (s : State) : (s.tick).errinfo = s.errinfo := rfl
@[simp] theorem State.tick_seq (s : State) : (s.tick).seq = s.seq := rfl
@[simp] theorem State.tick_hostQueue (s : State) : (s.tick).hostQueue = s.hostQueue := rfl
@[simp] theorem State.tick_resets (s : State) : (s.tick).resets = s.resets := rfl
@[simp] theorem State.tick_pinFallible (s : State) : (s.tick).pinFallible = s.pinFallible := rfl
@[simp] theorem State.tick_pinScript (s : State) : (s.tick).pinScript = s.pinScript := rfl
@[simp] theorem State.tick_pinAsked (s : State) : (s.tick).pinAsked = s.pinAsked := rfl
@[simp] theorem State.tick_stallFree (s : State) : (s.tick).stallFree = s.stallFree := rfl
@[simp] theorem State.tick_stalls (s : State) : (s.tick).stalls = s.stalls := rfl
@[simp] theorem State.tick_stallDraws (s : State) : (s.tick).stallDraws = s.stallDraws := rfl
@[simp] theorem State.tick_log (s : State) : (s.tick).log = .tick s.pin :: s.log := rfl

/-! ### `endHold` -/

@[simp] theorem State.endHold_cal (s : State) : (s.endHold).cal = s.cal := rfl
@[simp] theorem State.endHold_fsm (s : State) : (s.endHold).fsm = s.fsm := rfl
@[simp] theorem State.endHold_ci (s : State) : (s.endHold).ci = s.ci := rfl
@[simp] theorem State.endHold_byi (s : State) : (s.endHold).byi = s.byi := rfl
@[simp] theorem State.endHold_bi (s : State) : (s.endHold).bi = s.bi := rfl
@[simp] theorem State.endHold_ph (s : State) : (s.endHold).ph = s.ph := rfl
@[simp] theorem State.endHold_hold (s : State) : (s.endHold).hold = false := rfl
@[simp] theorem State.endHold_color (s : State) : (s.endHold).color = s.color := rfl
@[simp] theorem State.endHold_byte (s : State) : (s.endHold).byte = s.byte := rfl
@[simp] theorem State.endHold_dly (s : State) : (s.endHold).dly = s.dly := rfl
@[simp] theorem State.endHold_pin (s : State) : (s.endHold).pin = s.pin := rfl
@[simp] theorem State.endHold_constructed (s : State) : (s.endHold).constructed = s.constructed := rfl
@[simp] theorem State.endHold_busy (s : State) : (s.endHold).busy = s.busy := rfl
@[simp] theorem State.endHold_done (s : State) : (s.endHold).done = s.done := rfl
@[simp] theorem State.endHold_err (s : State) : (s.endHold).err = s.err := rfl
@[simp] theorem State.endHold_cmderr (s : State) : (s.endHold).cmderr = s.cmderr := rfl
@[simp] theorem State.endHold_errinfo (s : State) : (s.endHold).errinfo = s.errinfo := rfl
@[simp] theorem State.endHold_seq (s : State) : (s.endHold).seq = s.seq := rfl
@[simp] theorem State.endHold_hostQueue (s : State) : (s.endHold).hostQueue = s.hostQueue := rfl
@[simp] theorem State.endHold_resets (s : State) : (s.endHold).resets = s.resets := rfl
@[simp] theorem State.endHold_pinFallible (s : State) : (s.endHold).pinFallible = s.pinFallible := rfl
@[simp] theorem State.endHold_pinScript (s : State) : (s.endHold).pinScript = s.pinScript := rfl
@[simp] theorem State.endHold_pinAsked (s : State) : (s.endHold).pinAsked = s.pinAsked := rfl
@[simp] theorem State.endHold_stallFree (s : State) : (s.endHold).stallFree = s.stallFree := rfl
@[simp] theorem State.endHold_stalls (s : State) : (s.endHold).stalls = s.stalls := rfl
@[simp] theorem State.endHold_stallDraws (s : State) : (s.endHold).stallDraws = s.stallDraws := rfl
@[simp] theorem State.endHold_log (s : State) : (s.endHold).log = s.log := rfl

/-! ### `startFrame` -/

@[simp] theorem State.startFrame_cal (s : State) : (s.startFrame).cal = s.cal := rfl
@[simp] theorem State.startFrame_fsm (s : State) : (s.startFrame).fsm = (if (colorAt s.seq 0).isSome then .emittingColor else .latching) := rfl
@[simp] theorem State.startFrame_ci (s : State) : (s.startFrame).ci = 0 := rfl
@[simp] theorem State.startFrame_byi (s : State) : (s.startFrame).byi = 0 := rfl
@[simp] theorem State.startFrame_bi (s : State) : (s.startFrame).bi = 0 := rfl
@[simp] theorem State.startFrame_ph (s : State) : (s.startFrame).ph = 1 := rfl
@[simp] theorem State.startFrame_hold (s : State) : (s.startFrame).hold = false := rfl
@[simp] theorem State.startFrame_color (s : State) : (s.startFrame).color = s.color := rfl
@[simp] theorem State.startFrame_byte (s : State) : (s.startFrame).byte = s.byte := rfl
@[simp] theorem State.startFrame_dly (s : State) : (s.startFrame).dly = 0 := rfl
@[simp] theorem State.startFrame_pin (s : State) : (s.startFrame).pin = s.pin := rfl
@[simp] theorem State.startFrame_constructed (s : State) : (s.startFrame).constructed = s.constructed := rfl
@[simp] theorem State.startFrame_busy (s : State) : (s.startFrame).busy = true := rfl
@[simp] theorem State.startFrame_done (s : State) : (s.startFrame).done = false := rfl
@[simp] theorem State.startFrame_err (s : State) : (s.startFrame).err = false := rfl
@[simp] theorem State.startFrame_cmderr (s : State) : (s.startFrame).cmderr = s.cmderr := rfl
@[simp] theorem State.startFrame_errinfo (s : State) : (s.startFrame).errinfo = s.errinfo := rfl
@[simp] theorem State.startFrame_seq (s : State) : (s.startFrame).seq = s.seq := rfl
@[simp] theorem State.startFrame_hostQueue (s : State) : (s.startFrame).hostQueue = s.hostQueue := rfl
@[simp] theorem State.startFrame_resets (s : State) : (s.startFrame).resets = s.resets := rfl
@[simp] theorem State.startFrame_pinFallible (s : State) : (s.startFrame).pinFallible = s.pinFallible := rfl
@[simp] theorem State.startFrame_pinScript (s : State) : (s.startFrame).pinScript = s.pinScript := rfl
@[simp] theorem State.startFrame_pinAsked (s : State) : (s.startFrame).pinAsked = s.pinAsked := rfl
@[simp] theorem State.startFrame_stallFree (s : State) : (s.startFrame).stallFree = s.stallFree := rfl
@[simp] theorem State.startFrame_stalls (s : State) : (s.startFrame).stalls = s.stalls := rfl
@[simp] theorem State.startFrame_stallDraws (s : State) : (s.startFrame).stallDraws = s.stallDraws := rfl
@[simp] theorem State.startFrame_log (s : State) : (s.startFrame).log = s.log := rfl

/-! ### `finish` -/

@[simp] theorem State.finish_cal (s : State) : (s.finish).cal = s.cal := rfl
@[simp] theorem State.finish_fsm (s : State) : (s.finish).fsm = .done := rfl
@[simp] theorem State.finish_ci (s : State) : (s.finish).ci = s.ci := rfl
@[simp] theorem State.finish_byi (s : State) : (s.finish).byi = s.byi := rfl
@[simp] theorem State.finish_bi (s : State) : (s.finish).bi = s.bi := rfl
@[simp] theorem State.finish_ph (s : State) : (s.finish).ph = s.ph := rfl
@[simp] theorem State.finish_hold (s : State) : (s.finish).hold = false := rfl
@[simp] theorem State.finish_color (s : State) : (s.finish).color = s.color := rfl
@[simp] theorem State.finish_byte (s : State) : (s.finish).byte = s.byte := rfl
@[simp] theorem State.finish_dly (s : State) : (s.finish).dly = s.dly := rfl
@[simp] theorem State.finish_pin (s : State) : (s.finish).pin = s.pin := rfl
@[simp] theorem State.finish_constructed (s : State) : (s.finish).constructed = s.constructed := rfl
@[simp] theorem State.finish_busy (s : State) : (s.finish).busy = false := rfl
@[simp] theorem State.finish_done (s : State) : (s.finish).done = true := rfl
@[simp] theorem State.finish_err (s : State) : (s.finish).err = s.err := rfl
@[simp] theorem State.finish_cmderr (s : State) : (s.finish).cmderr = s.cmderr := rfl
@[simp] theorem State.finish_errinfo (s : State) : (s.finish).errinfo = s.errinfo := rfl
@[simp] theorem State.finish_seq (s : State) : (s.finish).seq = s.seq := rfl
@[simp] theorem State.finish_hostQueue (s : State) : (s.finish).hostQueue = s.hostQueue := rfl
@[simp] theorem State.finish_resets (s : State) : (s.finish).resets = s.resets := rfl
@[simp] theorem State.finish_pinFallible (s : State) : (s.finish).pinFallible = s.pinFallible := rfl
@[simp] theorem State.finish_pinScript (s : State) : (s.finish).pinScript = s.pinScript := rfl
@[simp] theorem State.finish_pinAsked (s : State) : (s.finish).pinAsked = s.pinAsked := rfl
@[simp] theorem State.finish_stallFree (s : State) : (s.finish).stallFree = s.stallFree := rfl
@[simp] theorem State.finish_stalls (s : State) : (s.finish).stalls = s.stalls := rfl
@[simp] theorem State.finish_stallDraws (s : State) : (s.finish).stallDraws = s.stallDraws := rfl
@[simp] theorem State.finish_log (s : State) : (s.finish).log = .result .ok :: s.log := rfl

/-! ### `takeCommand` -/

@[simp] theorem State.takeCommand_cal (s : State) (rest : List HostAction) (stream : List Word) : (s.takeCommand rest stream).cal = s.cal := rfl
@[simp] theorem State.takeCommand_fsm (s : State) (rest : List HostAction) (stream : List Word) : (s.takeCommand rest stream).fsm = s.fsm := rfl
@[simp] theorem State.takeCommand_ci (s : State) (rest : List HostAction) (stream : List Word) : (s.takeCommand rest stream).ci = s.ci := rfl
@[simp] theorem State.takeCommand_byi (s : State) (rest : List HostAction) (stream : List Word) : (s.takeCommand rest stream).byi = s.byi := rfl
@[simp] theorem State.takeCommand_bi (s : State) (rest : List HostAction) (stream : List Word) : (s.takeCommand rest stream).bi = s.bi := rfl
@[simp] theorem State.takeCommand_ph (s : State) (rest : List HostAction) (stream : List Word) : (s.takeCommand rest stream).ph = s.ph := rfl
@[simp] theorem State.takeCommand_hold (s : State) (rest : List HostAction) (stream : List Word) : (s.takeCommand rest stream).hold = s.hold := rfl
@[simp] theorem State.takeCommand_color (s : State) (rest : List HostAction) (stream : List Word) : (s.takeCommand rest stream).color = s.color := rfl
@[simp] theorem State.takeCommand_byte (s : State) (rest : List HostAction) (stream : List Word) : (s.takeCommand rest stream).byte = s.byte := rfl
@[simp] theorem State.takeCommand_dly (s : State) (rest : List HostAction) (stream : List Word) : (s.takeCommand rest stream).dly = s.dly := rfl
@[simp] theorem State.takeCommand_pin (s : State) (rest : List HostAction) (stream : List Word) : (s.takeCommand rest stream).pin = s.pin := rfl
@[simp] theorem State.takeCommand_constructed (s : State) (rest : List HostAction) (stream : List Word) : (s.takeCommand rest stream).constructed = s.constructed := rfl
@[simp] theorem State.takeCommand_busy (s : State) (rest : List HostAction) (stream : List Word) : (s.takeCommand rest stream).busy = s.busy := rfl
@[simp] theorem State.takeCommand_done (s : State) (rest : List HostAction) (stream : List Word) : (s.takeCommand rest stream).done = s.done := rfl
@[simp] theorem State.takeCommand_err (s : State) (rest : List HostAction) (stream : List Word) : (s.takeCommand rest stream).err = s.err := rfl
@[simp] theorem State.takeCommand_cmderr (s : State) (rest : List HostAction) (stream : List Word) : (s.takeCommand rest stream).cmderr = s.cmderr := rfl
@[simp] theorem State.takeCommand_errinfo (s : State) (rest : List HostAction) (stream : List Word) : (s.takeCommand rest stream).errinfo = s.errinfo := rfl
@[simp] theorem State.takeCommand_seq (s : State) (rest : List HostAction) (stream : List Word) : (s.takeCommand rest stream).seq = stream := rfl
@[simp] theorem State.takeCommand_hostQueue (s : State) (rest : List HostAction) (stream : List Word) : (s.takeCommand rest stream).hostQueue = rest := rfl
@[simp] theorem State.takeCommand_resets (s : State) (rest : List HostAction) (stream : List Word) : (s.takeCommand rest stream).resets = s.resets := rfl
@[simp] theorem State.takeCommand_pinFallible (s : State) (rest : List HostAction) (stream : List Word) : (s.takeCommand rest stream).pinFallible = s.pinFallible := rfl
@[simp] theorem State.takeCommand_pinScript (s : State) (rest : List HostAction) (stream : List Word) : (s.takeCommand rest stream).pinScript = s.pinScript := rfl
@[simp] theorem State.takeCommand_pinAsked (s : State) (rest : List HostAction) (stream : List Word) : (s.takeCommand rest stream).pinAsked = s.pinAsked := rfl
@[simp] theorem State.takeCommand_stallFree (s : State) (rest : List HostAction) (stream : List Word) : (s.takeCommand rest stream).stallFree = s.stallFree := rfl
@[simp] theorem State.takeCommand_stalls (s : State) (rest : List HostAction) (stream : List Word) : (s.takeCommand rest stream).stalls = s.stalls := rfl
@[simp] theorem State.takeCommand_stallDraws (s : State) (rest : List HostAction) (stream : List Word) : (s.takeCommand rest stream).stallDraws = s.stallDraws := rfl
@[simp] theorem State.takeCommand_log (s : State) (rest : List HostAction) (stream : List Word) : (s.takeCommand rest stream).log = s.log := rfl

/-! ### The reset event -/

@[simp] theorem State.resetEvent_cal (s : State) : s.resetEvent.cal = State.reset.cal := rfl
@[simp] theorem State.resetEvent_fsm (s : State) : s.resetEvent.fsm = State.reset.fsm := rfl
@[simp] theorem State.resetEvent_ci (s : State) : s.resetEvent.ci = State.reset.ci := rfl
@[simp] theorem State.resetEvent_byi (s : State) : s.resetEvent.byi = State.reset.byi := rfl
@[simp] theorem State.resetEvent_bi (s : State) : s.resetEvent.bi = State.reset.bi := rfl
@[simp] theorem State.resetEvent_ph (s : State) : s.resetEvent.ph = State.reset.ph := rfl
@[simp] theorem State.resetEvent_hold (s : State) : s.resetEvent.hold = State.reset.hold := rfl
@[simp] theorem State.resetEvent_color (s : State) : s.resetEvent.color = State.reset.color := rfl
@[simp] theorem State.resetEvent_byte (s : State) : s.resetEvent.byte = State.reset.byte := rfl
@[simp] theorem State.resetEvent_dly (s : State) : s.resetEvent.dly = State.reset.dly := rfl
@[simp] theorem State.resetEvent_pin (s : State) : s.resetEvent.pin = State.reset.pin := rfl
@[simp] theorem State.resetEvent_constructed (s : State) : s.resetEvent.constructed = State.reset.constructed := rfl
@[simp] theorem State.resetEvent_busy (s : State) : s.resetEvent.busy = State.reset.busy := rfl
@[simp] theorem State.resetEvent_done (s : State) : s.resetEvent.done = State.reset.done := rfl
@[simp] theorem State.resetEvent_err (s : State) : s.resetEvent.err = State.reset.err := rfl
@[simp] theorem State.resetEvent_cmderr (s : State) : s.resetEvent.cmderr = State.reset.cmderr := rfl
@[simp] theorem State.resetEvent_errinfo (s : State) : s.resetEvent.errinfo = State.reset.errinfo := rfl
@[simp] theorem State.resetEvent_seq (s : State) : s.resetEvent.seq = State.reset.seq := rfl
@[simp] theorem State.resetEvent_hostQueue (s : State) : s.resetEvent.hostQueue = s.hostQueue := rfl
@[simp] theorem State.resetEvent_resets (s : State) : s.resetEvent.resets = s.resets := rfl
@[simp] theorem State.resetEvent_pinFallible (s : State) : s.resetEvent.pinFallible = s.pinFallible := rfl
@[simp] theorem State.resetEvent_pinScript (s : State) : s.resetEvent.pinScript = s.pinScript := rfl
@[simp] theorem State.resetEvent_pinAsked (s : State) : s.resetEvent.pinAsked = s.pinAsked := rfl
@[simp] theorem State.resetEvent_stallFree (s : State) : s.resetEvent.stallFree = s.stallFree := rfl
@[simp] theorem State.resetEvent_stalls (s : State) : s.resetEvent.stalls = s.stalls := rfl
@[simp] theorem State.resetEvent_stallDraws (s : State) : s.resetEvent.stallDraws = s.stallDraws := rfl
@[simp] theorem State.resetEvent_log (s : State) : s.resetEvent.log = s.log := rfl

/-! ### The surroundings' own moves change no engine register -/

@[simp] theorem State.stallTick_cal (s : State) : s.stallTick.cal = s.cal := by
  unfold State.stallTick; split <;> rfl
@[simp] theorem State.stallTick_fsm (s : State) : s.stallTick.fsm = s.fsm := by
  unfold State.stallTick; split <;> rfl
@[simp] theorem State.stallTick_ci (s : State) : s.stallTick.ci = s.ci := by
  unfold State.stallTick; split <;> rfl
@[simp] theorem State.stallTick_byi (s : State) : s.stallTick.byi = s.byi := by
  unfold State.stallTick; split <;> rfl
@[simp] theorem State.stallTick_bi (s : State) : s.stallTick.bi = s.bi := by
  unfold State.stallTick; split <;> rfl
@[simp] theorem State.stallTick_ph (s : State) : s.stallTick.ph = s.ph := by
  unfold State.stallTick; split <;> rfl
@[simp] theorem State.stallTick_hold (s : State) : s.stallTick.hold = s.hold := by
  unfold State.stallTick; split <;> rfl
@[simp] theorem State.stallTick_color (s : State) : s.stallTick.color = s.color := by
  unfold State.stallTick; split <;> rfl
@[simp] theorem State.stallTick_byte (s : State) : s.stallTick.byte = s.byte := by
  unfold State.stallTick; split <;> rfl
@[simp] theorem State.stallTick_dly (s : State) : s.stallTick.dly = s.dly := by
  unfold State.stallTick; split <;> rfl
@[simp] theorem State.stallTick_pin (s : State) : s.stallTick.pin = s.pin := by
  unfold State.stallTick; split <;> rfl
@[simp] theorem State.stallTick_constructed (s : State) : s.stallTick.constructed = s.constructed := by
  unfold State.stallTick; split <;> rfl
@[simp] theorem State.stallTick_busy (s : State) : s.stallTick.busy = s.busy := by
  unfold State.stallTick; split <;> rfl
@[simp] theorem State.stallTick_done (s : State) : s.stallTick.done = s.done := by
  unfold State.stallTick; split <;> rfl
@[simp] theorem State.stallTick_err (s : State) : s.stallTick.err = s.err := by
  unfold State.stallTick; split <;> rfl
@[simp] theorem State.stallTick_cmderr (s : State) : s.stallTick.cmderr = s.cmderr := by
  unfold State.stallTick; split <;> rfl
@[simp] theorem State.stallTick_errinfo (s : State) : s.stallTick.errinfo = s.errinfo := by
  unfold State.stallTick; split <;> rfl
@[simp] theorem State.stallTick_seq (s : State) : s.stallTick.seq = s.seq := by
  unfold State.stallTick; split <;> rfl
@[simp] theorem State.stallTick_hostQueue (s : State) : s.stallTick.hostQueue = s.hostQueue := by
  unfold State.stallTick; split <;> rfl
@[simp] theorem State.stallTick_resets (s : State) : s.stallTick.resets = s.resets := by
  unfold State.stallTick; split <;> rfl
@[simp] theorem State.stallTick_pinFallible (s : State) : s.stallTick.pinFallible = s.pinFallible := by
  unfold State.stallTick; split <;> rfl
@[simp] theorem State.stallTick_pinScript (s : State) : s.stallTick.pinScript = s.pinScript := by
  unfold State.stallTick; split <;> rfl
@[simp] theorem State.stallTick_pinAsked (s : State) : s.stallTick.pinAsked = s.pinAsked := by
  unfold State.stallTick; split <;> rfl
@[simp] theorem State.stallTick_stallFree (s : State) : s.stallTick.stallFree = s.stallFree := by
  unfold State.stallTick; split <;> rfl

@[simp] theorem State.stallSpent_cal (s : State) : s.stallSpent.cal = s.cal := by
  unfold State.stallSpent; repeat' split
  all_goals rfl
@[simp] theorem State.stallSpent_fsm (s : State) : s.stallSpent.fsm = s.fsm := by
  unfold State.stallSpent; repeat' split
  all_goals rfl
@[simp] theorem State.stallSpent_ci (s : State) : s.stallSpent.ci = s.ci := by
  unfold State.stallSpent; repeat' split
  all_goals rfl
@[simp] theorem State.stallSpent_byi (s : State) : s.stallSpent.byi = s.byi := by
  unfold State.stallSpent; repeat' split
  all_goals rfl
@[simp] theorem State.stallSpent_bi (s : State) : s.stallSpent.bi = s.bi := by
  unfold State.stallSpent; repeat' split
  all_goals rfl
@[simp] theorem State.stallSpent_ph (s : State) : s.stallSpent.ph = s.ph := by
  unfold State.stallSpent; repeat' split
  all_goals rfl
@[simp] theorem State.stallSpent_hold (s : State) : s.stallSpent.hold = s.hold := by
  unfold State.stallSpent; repeat' split
  all_goals rfl
@[simp] theorem State.stallSpent_color (s : State) : s.stallSpent.color = s.color := by
  unfold State.stallSpent; repeat' split
  all_goals rfl
@[simp] theorem State.stallSpent_byte (s : State) : s.stallSpent.byte = s.byte := by
  unfold State.stallSpent; repeat' split
  all_goals rfl
@[simp] theorem State.stallSpent_dly (s : State) : s.stallSpent.dly = s.dly := by
  unfold State.stallSpent; repeat' split
  all_goals rfl
@[simp] theorem State.stallSpent_pin (s : State) : s.stallSpent.pin = s.pin := by
  unfold State.stallSpent; repeat' split
  all_goals rfl
@[simp] theorem State.stallSpent_constructed (s : State) : s.stallSpent.constructed = s.constructed := by
  unfold State.stallSpent; repeat' split
  all_goals rfl
@[simp] theorem State.stallSpent_busy (s : State) : s.stallSpent.busy = s.busy := by
  unfold State.stallSpent; repeat' split
  all_goals rfl
@[simp] theorem State.stallSpent_done (s : State) : s.stallSpent.done = s.done := by
  unfold State.stallSpent; repeat' split
  all_goals rfl
@[simp] theorem State.stallSpent_err (s : State) : s.stallSpent.err = s.err := by
  unfold State.stallSpent; repeat' split
  all_goals rfl
@[simp] theorem State.stallSpent_cmderr (s : State) : s.stallSpent.cmderr = s.cmderr := by
  unfold State.stallSpent; repeat' split
  all_goals rfl
@[simp] theorem State.stallSpent_errinfo (s : State) : s.stallSpent.errinfo = s.errinfo := by
  unfold State.stallSpent; repeat' split
  all_goals rfl
@[simp] theorem State.stallSpent_seq (s : State) : s.stallSpent.seq = s.seq := by
  unfold State.stallSpent; repeat' split
  all_goals rfl
@[simp] theorem State.stallSpent_hostQueue (s : State) : s.stallSpent.hostQueue = s.hostQueue := by
  unfold State.stallSpent; repeat' split
  all_goals rfl
@[simp] theorem State.stallSpent_resets (s : State) : s.stallSpent.resets = s.resets := by
  unfold State.stallSpent; repeat' split
  all_goals rfl
@[simp] theorem State.stallSpent_pinFallible (s : State) : s.stallSpent.pinFallible = s.pinFallible := by
  unfold State.stallSpent; repeat' split
  all_goals rfl
@[simp] theorem State.stallSpent_pinScript (s : State) : s.stallSpent.pinScript = s.pinScript := by
  unfold State.stallSpent; repeat' split
  all_goals rfl
@[simp] theorem State.stallSpent_pinAsked (s : State) : s.stallSpent.pinAsked = s.pinAsked := by
  unfold State.stallSpent; repeat' split
  all_goals rfl
@[simp] theorem State.stallSpent_stallFree (s : State) : s.stallSpent.stallFree = s.stallFree := by
  unfold State.stallSpent; repeat' split
  all_goals rfl
@[simp] theorem State.stallSpent_log (s : State) : s.stallSpent.log = s.log := by
  unfold State.stallSpent; repeat' split
  all_goals rfl

@[simp] theorem State.countReset_cal (s : State) : s.countReset.cal = s.cal := by
  unfold State.countReset; split <;> rfl
@[simp] theorem State.countReset_fsm (s : State) : s.countReset.fsm = s.fsm := by
  unfold State.countReset; split <;> rfl
@[simp] theorem State.countReset_ci (s : State) : s.countReset.ci = s.ci := by
  unfold State.countReset; split <;> rfl
@[simp] theorem State.countReset_byi (s : State) : s.countReset.byi = s.byi := by
  unfold State.countReset; split <;> rfl
@[simp] theorem State.countReset_bi (s : State) : s.countReset.bi = s.bi := by
  unfold State.countReset; split <;> rfl
@[simp] theorem State.countReset_ph (s : State) : s.countReset.ph = s.ph := by
  unfold State.countReset; split <;> rfl
@[simp] theorem State.countReset_hold (s : State) : s.countReset.hold = s.hold := by
  unfold State.countReset; split <;> rfl
@[simp] theorem State.countReset_color (s : State) : s.countReset.color = s.color := by
  unfold State.countReset; split <;> rfl
@[simp] theorem State.countReset_byte (s : State) : s.countReset.byte = s.byte := by
  unfold State.countReset; split <;> rfl
@[simp] theorem State.countReset_dly (s : State) : s.countReset.dly = s.dly := by
  unfold State.countReset; split <;> rfl
@[simp] theorem State.countReset_pin (s : State) : s.countReset.pin = s.pin := by
  unfold State.countReset; split <;> rfl
@[simp] theorem State.countReset_constructed (s : State) : s.countReset.constructed = s.constructed := by
  unfold State.countReset; split <;> rfl
@[simp] theorem State.countReset_busy (s : State) : s.countReset.busy = s.busy := by
  unfold State.countReset; split <;> rfl
@[simp] theorem State.countReset_done (s : State) : s.countReset.done = s.done := by
  unfold State.countReset; split <;> rfl
@[simp] theorem State.countReset_err (s : State) : s.countReset.err = s.err := by
  unfold State.countReset; split <;> rfl
@[simp] theorem State.countReset_cmderr (s : State) : s.countReset.cmderr = s.cmderr := by
  unfold State.countReset; split <;> rfl
@[simp] theorem State.countReset_errinfo (s : State) : s.countReset.errinfo = s.errinfo := by
  unfold State.countReset; split <;> rfl
@[simp] theorem State.countReset_seq (s : State) : s.countReset.seq = s.seq := by
  unfold State.countReset; split <;> rfl
@[simp] theorem State.countReset_hostQueue (s : State) : s.countReset.hostQueue = s.hostQueue := by
  unfold State.countReset; split <;> rfl
@[simp] theorem State.countReset_pinFallible (s : State) : s.countReset.pinFallible = s.pinFallible := by
  unfold State.countReset; split <;> rfl
@[simp] theorem State.countReset_pinScript (s : State) : s.countReset.pinScript = s.pinScript := by
  unfold State.countReset; split <;> rfl
@[simp] theorem State.countReset_pinAsked (s : State) : s.countReset.pinAsked = s.pinAsked := by
  unfold State.countReset; split <;> rfl
@[simp] theorem State.countReset_stallFree (s : State) : s.countReset.stallFree = s.stallFree := by
  unfold State.countReset; split <;> rfl
@[simp] theorem State.countReset_stalls (s : State) : s.countReset.stalls = s.stalls := by
  unfold State.countReset; split <;> rfl
@[simp] theorem State.countReset_stallDraws (s : State) : s.countReset.stallDraws = s.stallDraws := by
  unfold State.countReset; split <;> rfl
@[simp] theorem State.countReset_log (s : State) : s.countReset.log = s.log := by
  unfold State.countReset; split <;> rfl

@[simp] theorem State.stallTick_log (s : State) : s.stallTick.log = .tick s.pin :: s.log := by
  unfold State.stallTick; split <;> rfl

end Sys2Proof.Machine
end

