-- ==== Sys2Proof/Laws/Ops.lean ====
section
/-! SUPPORT. Each shared operation said once: everything it can do, for proofs that do not unfold it. -/

namespace Sys2Proof.Machine

/-! ### The pin -/

/-- The answers depend on the pin's own fields alone. -/
theorem State.answerAt_congr {s t : State} (hf : t.pinFallible = s.pinFallible) (hs : t.pinScript = s.pinScript)
    (ha : t.pinAsked = s.pinAsked) (k : Nat) : t.answerAt k = s.answerAt k := by
  simp only [State.answerAt, hf, hs, ha]

/-- After a request the next answer is the one that was second. -/
theorem State.answerAt_next {s t : State} (hf : t.pinFallible = s.pinFallible) (hs : t.pinScript = s.pinScript.tail)
    (ha : t.pinAsked = s.pinAsked + 1) (k : Nat) : t.answerAt k = s.answerAt (k + 1) := by
  simp only [State.answerAt, hf, hs, ha, List.getElem?_tail, Nat.add_assoc, Nat.add_comm 1 k]

theorem State.answerAt_infallible {s : State} (h : s.pinFallible = false) (k : Nat) : s.answerAt k = .ok := by
  simp [State.answerAt, h]

theorem State.driveThen_ok {s : State} {l : Level} {next : State → State} (h : s.answerAt 0 = .ok) :
    s.driveThen l next = next (s.pinTakes l) := by
  simp only [State.driveThen, State.pinAnswer, h]

theorem State.driveThen_err {s : State} {l : Level} {next : State → State} {e : Word} (h : s.answerAt 0 = .err e) :
    s.driveThen l next = s.raisePinError l e := by
  simp only [State.driveThen, State.pinAnswer, h]

/-- Everything asking the pin can do. -/
theorem State.driveThen_cases (s : State) (l : Level) (next : State → State) :
    (s.answerAt 0 = .ok ∧ s.driveThen l next = next (s.pinTakes l)) ∨
    (∃ e, s.answerAt 0 = .err e ∧ s.driveThen l next = s.raisePinError l e) := by
  cases h : s.answerAt 0 with
  | ok => exact .inl ⟨rfl, driveThen_ok h⟩
  | err e => exact .inr ⟨e, rfl, driveThen_err h⟩

/-! ### The hold -/

theorem State.holdStep_tick {s : State} {after : State → State} (h : s.dly ≠ 0) : s.holdStep after = s.tick := by
  simp only [State.holdStep, h, if_false]

theorem State.holdStep_end {s : State} {after : State → State} (h : s.dly = 0) : s.holdStep after = after s := by
  simp only [State.holdStep, h, if_true]

/-- A tick takes one from a count that is not 0; it never wraps (10_state.md R30). -/
theorem dly_pred {d : Word} (h : d ≠ 0) : (d - 1).toNat + 1 = d.toNat := by
  have : d.toNat ≠ 0 := fun h0 => h (by simpa using BitVec.eq_of_toNat_eq (y := 0#32) (by simpa using h0))
  have h1 : (1#32).toNat = 1 := rfl
  have := d.isLt
  rw [BitVec.toNat_sub]; simp only [BitVec.ofNat_eq_ofNat, h1]; omega

/-! ### The host's operations -/

/-- Everything construction can do. -/
theorem State.construct_cases (s : State) (n : Nat) :
    (s.fsm = .unconstructed ∧
      s.construct n = { s with cal := BitVec.ofNat 16 n, fsm := .idle, constructed := true }) ∨
    (s.fsm ≠ .unconstructed ∧ s.construct n = s.refuse) := by
  unfold State.construct
  split
  · exact .inl ⟨‹_›, rfl⟩
  · exact .inr ⟨‹_›, rfl⟩

theorem Fsm.acceptsWrite_iff (f : Fsm) : f.acceptsWrite = true ↔ f = .idle ∨ f = .done ∨ f = .aborted := by
  cases f <;> decide

/-! ### A bit -/

/-- Everything the end of a hold in a bit can do. -/
theorem State.advance_cases (s : State) :
    (s.ph.toNat < 3 ∧ s.advance = { s with hold := false, ph := s.ph + 1 }) ∨
    (3 ≤ s.ph.toNat ∧ s.bi.toNat < 7 ∧ s.advance = { s with hold := false, ph := 1, bi := s.bi + 1 }) ∨
    (3 ≤ s.ph.toNat ∧ 7 ≤ s.bi.toNat ∧ s.byi.toNat < 2 ∧
      s.advance = { s with hold := false, ph := 1, byi := s.byi + 1, fsm := .emittingByte }) ∨
    (3 ≤ s.ph.toNat ∧ 7 ≤ s.bi.toNat ∧ 2 ≤ s.byi.toNat ∧ (colorAt s.seq (s.ci.toNat + 1)).isSome = true ∧
      s.advance = { s with hold := false, ph := 1, ci := s.ci + 1, fsm := .emittingColor }) ∨
    (3 ≤ s.ph.toNat ∧ 7 ≤ s.bi.toNat ∧ 2 ≤ s.byi.toNat ∧ (colorAt s.seq (s.ci.toNat + 1)).isSome = false ∧
      s.advance = { s with hold := false, ph := 1, fsm := .latching }) := by
  unfold State.advance
  split
  · exact .inl ⟨‹_›, rfl⟩
  · split
    · exact .inr (.inl ⟨by omega, ‹_›, rfl⟩)
    · split
      · exact .inr (.inr (.inl ⟨by omega, by omega, ‹_›, rfl⟩))
      · split
        · exact .inr (.inr (.inr (.inl ⟨by omega, by omega, by omega, ‹_›, rfl⟩)))
        · exact .inr (.inr (.inr (.inr ⟨by omega, by omega, by omega, Bool.eq_false_iff.mpr ‹_›, rfl⟩)))

/-- A colour exists exactly at the positions inside the sequence (20_memory.md R61). -/
theorem colorAt_isSome (seq : List Word) (i : Nat) : (colorAt seq i).isSome = true ↔ i < seq.length := by
  simp [colorAt]

/-- Everything a bit's step can do, when it answers a next state. -/
theorem State.bitStep_next {s t : State} {b : Bool} (h : s.bitStep b = .next t) :
    s.fsm = .emittingBit ∧
    ((s.hold = true ∧ s.dly ≠ 0 ∧ t = s.tick) ∨
     (s.hold = true ∧ s.dly = 0 ∧ t = s.advance) ∨
     (s.hold = false ∧ (s.ph = 1 ∨ s.ph = 2 ∨ s.ph = 3) ∧
       (t = s.holdPhase ∨ ∃ l, t = s.driveThen l State.holdPhase))) := by
  unfold State.bitStep at h
  split at h
  case isFalse => cases h
  case isTrue hf =>
    refine ⟨hf, ?_⟩
    split at h
    case isTrue hh =>
      cases h
      by_cases hd : s.dly = 0
      · exact .inr (.inl ⟨hh, hd, holdStep_end hd⟩)
      · exact .inl ⟨hh, hd, holdStep_tick hd⟩
    case isFalse hh =>
      refine .inr (.inr ⟨by simpa using hh, ?_⟩)
      unfold State.phaseAction at h
      split at h
      · cases h; exact ⟨.inl ‹_›, .inr ⟨_, rfl⟩⟩
      · split at h
        · split at h
          · cases h; exact ⟨.inr (.inl ‹_›), .inl rfl⟩
          · cases h; exact ⟨.inr (.inl ‹_›), .inr ⟨_, rfl⟩⟩
        · split at h
          · cases h; exact ⟨.inr (.inr ‹_›), .inr ⟨_, rfl⟩⟩
          · cases h

/-- Everything the latch's step can do, when it answers a next state. -/
theorem execLatch_next {s t : State} (h : execLatch s = .next t) :
    s.fsm = .latching ∧
    ((s.hold = true ∧ s.dly ≠ 0 ∧ t = s.tick) ∨
     (s.hold = true ∧ s.dly = 0 ∧ t = s.finish) ∨
     (s.hold = false ∧ t = s.driveThen false State.holdLatch)) := by
  unfold execLatch at h
  split at h
  case isFalse => cases h
  case isTrue hf =>
    refine ⟨hf, ?_⟩
    split at h
    case isTrue hh =>
      cases h
      by_cases hd : s.dly = 0
      · exact .inr (.inl ⟨hh, hd, State.holdStep_end hd⟩)
      · exact .inl ⟨hh, hd, State.holdStep_tick hd⟩
    case isFalse hh => cases h; exact .inr (.inr ⟨by simpa using hh, rfl⟩)

/-- Everything `WRITE` can do, when it answers a next state. -/
theorem execWrite_next {s t : State} (h : execWrite s = .next t) :
    (s.fsm.acceptsWrite = true ∧ s.seq.length < 2 ^ 32 ∧ t = s.startFrame) ∨
    (s.fsm.acceptsWrite = false ∧ t = s.refuse) := by
  unfold execWrite at h
  split at h
  · split at h
    · cases h; exact .inl ⟨‹_›, ‹_›, rfl⟩
    · cases h
  · cases h; exact .inr ⟨Bool.eq_false_iff.mpr ‹_›, rfl⟩

/-! ### The stall environment -/

@[simp] theorem State.stallDue_countReset (s : State) : s.countReset.stallDue = s.stallDue := by
  simp only [State.stallDue, State.countReset_stalls, State.countReset_stallFree, State.countReset_stallDraws]

theorem State.stallDue_stallTick {s : State} (h : s.stallDue ≠ 0) : s.stallTick.stallDue + 1 = s.stallDue := by
  cases hs : s.stalls with
  | nil =>
    simp only [State.stallTick, State.stallDue, hs] at *
    split at h
    · exact absurd rfl h
    · rw [if_neg ‹_›]; omega
  | cons n rest => simp only [State.stallTick, State.stallDue, hs] at *; omega

@[simp] theorem State.answerAt_countReset (s : State) (k : Nat) : s.countReset.answerAt k = s.answerAt k :=
  State.answerAt_congr (by simp) (by simp) (by simp) k

@[simp] theorem State.answerAt_stallSpent (s : State) (k : Nat) : s.stallSpent.answerAt k = s.answerAt k :=
  State.answerAt_congr (by simp) (by simp) (by simp) k

end Sys2Proof.Machine
end

