-- ==== Sys2Proof/Laws/OpList.lean ====
section
/-! SUPPORT. The big-step run of an op list said once: its equations without stall ticks, what stall ticks leave as it is,
and how the environment's choices move as the engine steps. -/

namespace Sys2Proof.Machine

/-! ### The nominal run -/

@[simp] theorem runOps_nil (ask : Nat → Answer) (k : Nat) (p : PinLevel) : runOps ask k p [] = [.result .ok] := rfl

@[simp] theorem runOps_drive (ask : Nat → Answer) (k : Nat) (p : PinLevel) (l : Level) (ops : List MicroOp) :
    runOps ask k p (.drive l :: ops) =
      match ask k with
      | .ok => .drive l .ok :: runOps ask (k + 1) (.driven l) ops
      | .err e => [.drive l (.err e), .result (.err e)] := rfl

@[simp] theorem runOps_delay (ask : Nat → Answer) (k : Nat) (p : PinLevel) (n : Nat) (ops : List MicroOp) :
    runOps ask k p (.delay n :: ops) = List.replicate n (.tick p) ++ runOps ask k p ops := rfl

/-! ### What stall ticks leave as it is -/

theorem actions_append (t u : List Event) : actions (t ++ u) = actions t ++ actions u := List.filter_append ..

theorem actions_ticks (n : Nat) (p : PinLevel) : actions (List.replicate n (.tick p)) = [] := by
  simp [actions]

/-- Stall ticks only put ticks in. -/
theorem runOps_sublist (ask : Nat → Answer) (k : Nat) (p : PinLevel) (more : List Nat) (ops : List MicroOp) :
    (runOps ask k p ops).Sublist (runStalled ask k p more ops) := by
  induction ops generalizing k p more with
  | nil => exact .refl _
  | cons op ops ih =>
    cases op with
    | drive l =>
      rw [runOps_drive, runStalled]
      refine .trans ?_ (List.sublist_append_right _ _)
      cases ask k with
      | ok => exact (ih ..).cons_cons _
      | err e => exact .refl _
    | delay n =>
      rw [runOps_delay, runStalled]
      exact .append (List.replicate_sublist_replicate _ |>.mpr (Nat.le_add_right ..)) (ih ..)

/-- Stall ticks change no request and no result, and no order among them (R175). -/
theorem actions_runStalled (ask : Nat → Answer) (k : Nat) (p : PinLevel) (more : List Nat) (ops : List MicroOp) :
    actions (runStalled ask k p more ops) = actions (runOps ask k p ops) := by
  induction ops generalizing k p more with
  | nil => rfl
  | cons op ops ih =>
    cases op with
    | drive l =>
      rw [runOps_drive, runStalled, actions_append, actions_ticks, List.nil_append]
      cases ask k with
      | ok => exact congrArg (Event.drive l .ok :: ·) (ih ..)
      | err e => rfl
    | delay n =>
      rw [runOps_delay, runStalled, actions_append, actions_append, actions_ticks, actions_ticks, ih]

/-! ### The environment's choices -/

theorem State.stallDue_eq (s : State) : s.stallDue = s.stallAt 0 := by
  cases hs : s.stalls <;> simp [State.stallDue, State.stallAt, hs]

/-- After an engine step the next choice is the one that was second. -/
theorem State.stallAt_stallSpent (s : State) (k : Nat) : s.stallSpent.stallAt k = s.stallAt (k + 1) := by
  cases hs : s.stalls with
  | nil =>
    cases hf : s.stallFree <;>
      simp [State.stallSpent, State.stallAt, hs, hf, Nat.add_right_comm, Nat.add_assoc]
  | cons n rest => simp [State.stallSpent, State.stallAt, hs]

/-- A stall tick leaves the later choices as they are. -/
theorem State.stallAt_stallTick {s : State} (h : s.stallDue ≠ 0) (k : Nat) :
    s.stallTick.stallAt (k + 1) = s.stallAt (k + 1) := by
  cases hs : s.stalls with
  | nil =>
    cases hf : s.stallFree with
    | true => exact absurd (by simp [State.stallDue, hs, hf]) h
    | false => simp [State.stallTick, State.stallAt, hs, hf, Nat.add_assoc, Nat.add_comm 1 k]
  | cons n rest => simp [State.stallTick, State.stallAt, hs]

@[simp] theorem State.stallAt_countReset (s : State) (k : Nat) : s.countReset.stallAt k = s.stallAt k := by
  simp [State.stallAt]

/-- With no stall to come, no op is lengthened (00_scope.md R13). -/
theorem State.stallAt_nominal {s : State} (h : s.Nominal) (k : Nat) : s.stallAt k = 0 := by
  simp [State.stallAt, h.1, h.2]

/-! ### Every op has its engine steps -/

theorem length_bitSteps (before cal : Nat) (b : Bool) : (bitSteps before cal b).length = (bitOps cal b).length := by
  cases b <;> rfl

theorem length_opStalls (stall : Nat → Nat) (j : Nat) (steps : List Nat) :
    (opStalls stall j steps).length = steps.length := by
  induction steps generalizing j with
  | nil => rfl
  | cons m steps ih => simp [opStalls, ih]

end Sys2Proof.Machine
end

