-- ==== Sys2Proof/Laws/PerInstr.lean ====
section
/-! SUPPORT. A fact about every operation as syntax, one lemma for each: a well-formed operation's number fits its format
(30_encoding.md R90). -/

namespace Sys2Proof.Laws.EncodeFits

/-- The number of a well-formed operation has no more bits than its format. -/
def Statement (i : Instr) : Prop := i.wellFormed = true → encode i < 2 ^ i.format.width

theorem newIter (n : Nat) : Statement (.newIter n) := by
  intro h
  simp only [Instr.wellFormed, decide_eq_true_eq] at h
  simp only [encode, commandWord, Instr.format, Format.width]; omega

theorem newMhz (f : Nat) : Statement (.newMhz f) := by
  intro h
  simp only [Instr.wellFormed, decide_eq_true_eq] at h
  simp only [encode, commandWord, Instr.format, Format.width]; omega

theorem newDefault : Statement .newDefault := fun _ => by decide

theorem write : Statement .write := fun _ => by decide

theorem driveHigh : Statement .driveHigh := fun _ => by decide

theorem driveLow : Statement .driveLow := fun _ => by decide

theorem delay (n : Nat) : Statement (.delay n) := fun _ => Nat.mod_lt _ (by decide)

theorem emitBit (b : Bool) : Statement (.emitBit b) := fun _ => by cases b <;> decide

theorem bit0 : Statement .bit0 := fun _ => by decide

theorem bit1 : Statement .bit1 := fun _ => by decide

theorem emitByte (y : Byte) : Statement (.emitByte y) := fun _ => y.isLt

theorem emitColor (c : Colour) : Statement (.emitColor c) := fun _ => c.isLt

theorem latch : Statement .latch := fun _ => by decide

end Sys2Proof.Laws.EncodeFits
end

