-- ==== Sys2Proof/Laws/Step.lean ====
section
/-! SUPPORT. What a step can do, said once; every rule about all steps is a case analysis over `step_cases`. -/

namespace Sys2Proof.Machine

/-- What a busy engine's own step can do, when it answers a next state. -/
inductive EngineMove (s : State) : State → Prop where
  | color (c : Colour) (hf : s.fsm = .emittingColor) (hc : colorAt s.seq s.ci.toNat = some c) :
      EngineMove s { s with color := c, byi := 0, fsm := .emittingByte }
  | byte (y : Byte) (hf : s.fsm = .emittingByte) (hy : sel s.color s.byi = some y) :
      EngineMove s { s with byte := y, bi := 0, ph := 1, hold := false, fsm := .emittingBit }
  | bit (t : State) (h : s.bitStep (bitAt s.byte s.bi) = .next t) : EngineMove s t
  | latch (t : State) (h : execLatch s = .next t) : EngineMove s t

theorem decode_symbolWord (b : Bool) : decode .S (symbolWord b) = .ok (if b then .bit1 else .bit0) := by
  cases b <;> decide

theorem decode_colour (c : Colour) : decode .C c.toNat = .ok (.emitColor c) := by
  simp [decode, Format.width, c.isLt]

theorem decode_byte (y : Byte) : decode .B y.toNat = .ok (.emitByte y) := by
  simp [decode, Format.width, y.isLt]

/-- The engine's own step, by its position (42_frame_sequencer.md, the small-step machine). -/
theorem State.engineStep_next {s t : State} (h : s.engineStep = .next t) : EngineMove s t := by
  unfold State.engineStep State.fetch at h
  cases hf : s.fsm with
  | emittingColor =>
    cases hc : colorAt s.seq s.ci.toNat with
    | none => simp [hf, hc] at h
    | some c =>
      simp only [hf, hc, decode_colour, exec, execEmitColor, if_true, Host.Outcome.next.injEq] at h
      exact h ▸ .color c hf hc
  | emittingByte =>
    cases hy : sel s.color s.byi with
    | none => simp [hf, hy] at h
    | some y =>
      simp only [hf, hy, decode_byte, exec, execEmitByte, if_true, Host.Outcome.next.injEq] at h
      exact h ▸ .byte y hf hy
  | emittingBit =>
    simp only [hf, decode_symbolWord] at h
    refine .bit t ?_
    cases hb : bitAt s.byte s.bi <;> simpa [hb, exec, execBit0, execBit1] using h
  | latching =>
    simp only [hf] at h
    exact .latch t h
  | unconstructed => simp [hf] at h
  | idle => simp [hf] at h
  | done => simp [hf] at h
  | aborted => simp [hf] at h

/-- What the host's move can do, when it answers a next state: `u` is the state with the action taken. -/
inductive HostMove (s : State) : State → Prop where
  | wait (hq : s.hostQueue = []) : HostMove s s
  | reset (rest : List HostAction) (hq : s.hostQueue = .reset :: rest) :
      HostMove s { s with hostQueue := rest }.resetEvent
  | command (w : Word) (cs : List Word) (rest : List HostAction) (hq : s.hostQueue = .command w cs :: rest) (n : Nat) :
      HostMove s ((s.takeCommand rest cs).construct n)
  | write (w : Word) (cs : List Word) (rest : List HostAction) (hq : s.hostQueue = .command w cs :: rest) (t : State)
      (h : execWrite (s.takeCommand rest cs) = .next t) : HostMove s t
  | illegal (w : Word) (cs : List Word) (rest : List HostAction) (hq : s.hostQueue = .command w cs :: rest) :
      HostMove s (s.takeCommand rest cs).refuse

/-- A command word is a host operation (30_encoding.md R99). -/
theorem decode_command {w : Nat} {i : Instr} (h : decode .H w = .ok i) :
    (∃ n, i = .newIter n) ∨ (∃ f, i = .newMhz f) ∨ i = .newDefault ∨ i = .write := by
  unfold decode at h
  split at h
  · cases h
  · simp only [decodeCommand] at h
    repeat' split at h
    all_goals cases h
    · exact .inr (.inr (.inl rfl))
    · exact .inl ⟨_, rfl⟩
    · exact .inr (.inl ⟨_, rfl⟩)
    · exact .inr (.inr (.inr rfl))

theorem State.hostStep_next {s t : State} (h : s.hostStep = .next t) : HostMove s t := by
  unfold State.hostStep at h
  split at h
  · cases h; exact .wait ‹_›
  · cases h; exact .reset _ ‹_›
  · rename_i w cs rest hq
    split at h
    · rename_i i hi
      obtain ⟨n, rfl⟩ | ⟨f, rfl⟩ | rfl | rfl := decode_command hi
      · cases h; exact .command w cs rest hq n
      · cases h; exact .command w cs rest hq _
      · cases h; exact .command w cs rest hq _
      · exact .write w cs rest hq t h
    · cases h; exact .illegal w cs rest hq

/-- What a step can do, when it answers a next state. -/
theorem step_cases {s t : State} (h : step s = .next t) :
    (s.resetDue = true ∧ t = s.takeReset) ∨
    (s.resetDue = false ∧ s.busy = true ∧ s.stallDue ≠ 0 ∧ t = s.countReset.stallTick) ∨
    (s.resetDue = false ∧ s.busy = true ∧ s.stallDue = 0 ∧ EngineMove s.countReset.stallSpent t) ∨
    (s.resetDue = false ∧ s.busy = false ∧ HostMove s.countReset t) := by
  unfold step State.cycle at h
  split at h
  · cases h; exact .inl ⟨‹_›, rfl⟩
  · have hr : s.resetDue = false := Bool.eq_false_iff.mpr ‹_›
    split at h
    · have hb : s.busy = true := ‹_›
      unfold State.busyStep at h
      simp only [State.stallDue_countReset] at h
      split at h
      · exact .inr (.inr (.inl ⟨hr, hb, ‹_›, State.engineStep_next h⟩))
      · cases h; exact .inr (.inl ⟨hr, hb, ‹_›, rfl⟩)
    · exact .inr (.inr (.inr ⟨hr, Bool.eq_false_iff.mpr ‹_›, State.hostStep_next h⟩))

end Sys2Proof.Machine
end

