-- ==== Sys2Proof/Tests/Slice0.lean ====
section
/-! SUPPORT. Tests: the smoke of `WellFormed`, words written out from the spec's encodings, one step of each operation
against the spec's own vectors (95_test_vectors.md), and a witness for every statement that has hypotheses. -/

namespace Sys2Proof.Tests

open Sys2Proof.Machine

/-! ## Ill-formed operations are refused by each check -/

theorem test_wellFormed_refuses_iteration_count : (Instr.newIter 65536).wellFormed = false := by decide
theorem test_wellFormed_refuses_frequency : (Instr.newMhz 65536).wellFormed = false := by decide
theorem test_wellFormed_refuses_delay_count : (Instr.delay 4294967296).wellFormed = false := by decide
theorem test_wellFormed_takes_the_largest :
    (Instr.newIter 65535).wellFormed = true ∧ (Instr.newMhz 65535).wellFormed = true ∧
    (Instr.delay 4294967295).wellFormed = true := by decide

/-! ## Words written out from 30_encoding.md R91 to R99 -/

theorem test_decode_newIter : decode .H 0b00_00000000000000_0000000000000001 = .ok (.newIter 1) := by decide
theorem test_decode_newMhz : decode .H 0b01_00000000000000_0000001001011000 = .ok (.newMhz 600) := by decide
theorem test_decode_newDefault : decode .H 0b00_00000000000000_0000000000110010 = .ok .newDefault := by decide
theorem test_decode_write : decode .H 0b10_00000000000000_0000000000000000 = .ok .write := by decide
theorem test_decode_illegal :
    decode .H 0b11_00000000000000_0000000000000000 = .reject .reservedOp ∧
    decode .H 0b00_00000000000001_0000000000110010 = .reject .reservedBits ∧
    decode .H 0b10_00000000000000_0000000000000001 = .reject .writeArgument := by decide
theorem test_decode_pin : decode .P 0b1 = .ok .driveHigh ∧ decode .P 0b0 = .ok .driveLow := by decide
theorem test_decode_delay : decode .U 0b11 = .ok (.delay 3) := by decide
theorem test_decode_symbols :
    decode .S 0b100 = .ok .bit0 ∧ decode .S 0b110 = .ok .bit1 ∧
    ([0b000, 0b001, 0b010, 0b011, 0b101, 0b111].all fun w => decode .S w == .reject .notASymbol) := by decide
theorem test_encode_emitBit : encode (.emitBit false) = 0b100 ∧ encode (.emitBit true) = 0b110 := by decide
theorem test_decode_byte : decode .B 0b00010000 = .ok (.emitByte 0x10) := by decide
theorem test_decode_colour : decode .C 0b00010010_00110100_01010110 = .ok (.emitColor 0x123456) := by decide
theorem test_decode_latch : decode .F 0 = .ok .latch ∧ decode .F 1 = .reject .notALatch := by decide
theorem test_decode_too_wide : decode .S 8 = .reject .tooWide ∧ decode .H (2 ^ 32) = .reject .tooWide := by decide

/-! ## States for the tests -/

/-- A check on the next state of an outcome; a stop fails it. -/
def onNext (p : State → Bool) : Outcome → Bool
  | .next t => p t
  | .fault _ => false
  | .refused _ => false

/-- Constructed with `CAL = 2`, the pin low, nothing disturbing. -/
def idle : State :=
  { State.reset with fsm := .idle, constructed := true, cal := 2, pin := .driven false, pinScript := [.ok], stallFree := true }

/-- Busy at a bit of the frame `[0x008000]`, phase `ph`, before its pin action. -/
def atBit (ph : BitVec 2) : State :=
  { idle with fsm := .emittingBit, busy := true, seq := [0x008000], color := 0x008000, byte := 0x80, ph := ph }

/-- The same, the phase being held with `d` ticks to go. -/
def held (ph : BitVec 2) (d : Word) : State := { atBit ph with hold := true, dly := d }

/-- Busy before the latch. -/
def atLatch : State := { idle with fsm := .latching, busy := true }

/-- The host is about to issue the word with the colours. -/
def asking (s : State) (w : Word) (cs : List Word) : State := { s with hostQueue := [.command w cs] }

/-- A pin that fails the next request with `0xDEAD0001`. -/
def failing (s : State) : State := { s with pinScript := [.err 0xDEAD0001] }

/-! ## One step of each operation -/

/-- 95_test_vectors.md 2.5: `NEW_ITER 65535` from reset; `STATUS` of R190's example. -/
theorem test_newIter_constructs :
    onNext (fun t => t.cal == 65535 && t.fsm == .idle && t.statusWord == 1) (step (asking State.reset 0xFFFF []))
      = true := by decide
/-- 95_test_vectors.md P4: a second construction is refused, `STATUS = 0x11`. -/
theorem test_newMhz_refused :
    onNext (fun t => t.cal == 2 && t.fsm == .idle && t.statusWord == 0x11) (step (asking idle 0x40000258 [])) = true := by
  decide
/-- 95_test_vectors.md 2.5: `NEW_MHZ 720` gives 60. -/
theorem test_newMhz_720 :
    onNext (fun t => t.cal == 60 && t.fsm == .idle) (step (asking State.reset 0x400002D0 [])) = true := by decide
/-- 95_test_vectors.md 2.5: `NEW_DEFAULT`. -/
theorem test_newDefault :
    onNext (fun t => t.cal == 50 && t.statusWord == 1) (step (asking State.reset 0x32 [])) = true := by decide
/-- 95_test_vectors.md 2.4, step 0. -/
theorem test_write_starts :
    onNext (fun t => t.fsm == .emittingColor && t.busy && t.seq == [0x008000] && t.log == [])
      (step (asking idle 0x80000000 [0x008000])) = true := by decide
/-- 95_test_vectors.md P4, line 2: `STATUS = 0x10`. -/
theorem test_write_refused :
    onNext (fun t => t.fsm == .unconstructed && t.statusWord == 0x10) (step (asking State.reset 0x80000000 [0xFF00]))
      = true := by decide
/-- 95_test_vectors.md P4, lines 5 and 6. -/
theorem test_illegal_words_refused :
    onNext (fun t => t.cmderr && t.fsm == .idle && t.cal == 2) (step (asking idle 0xC0000000 [])) = true ∧
    onNext (fun t => t.cmderr && t.fsm == .idle && t.cal == 2) (step (asking idle 0x00010032 [])) = true := by decide
/-- 95_test_vectors.md 2.4, step 1. -/
theorem test_emitColor :
    onNext (fun t => t.fsm == .emittingByte && t.color == 0x008000 && t.byi == 0)
      (step { idle with fsm := .emittingColor, busy := true, seq := [0x008000] }) = true := by decide
/-- 95_test_vectors.md 2.3: bits above 23 are dropped. -/
theorem test_emitColor_wide_port :
    onNext (fun t => t.color == 0x345678) (step { idle with fsm := .emittingColor, busy := true, seq := [0x12345678] })
      = true := by decide
/-- 42_frame_sequencer.md R162's example: green, then red, then blue. -/
theorem test_emitByte :
    ([(0, 0x34), (1, 0x12), (2, 0x56)].all fun (k, y) =>
      onNext (fun t => t.byte == y && t.fsm == .emittingBit && t.ph == 1)
        (step { idle with fsm := .emittingByte, busy := true, seq := [0], color := 0x123456, byi := k })) = true := by
  decide
/-- 95_test_vectors.md 2.4, step 3. -/
theorem test_bit_phase1 :
    onNext (fun t => t.hold && t.dly == 2 && t.pin == .driven true && t.log == [.drive true .ok]) (step (atBit 1))
      = true := by decide
/-- 95_test_vectors.md 2.4, step 7: phase 2 of a 1 asks nothing of the pin. -/
theorem test_bit1_phase2 :
    onNext (fun t => t.hold && t.dly == 2 && t.log == []) (exec .bit1 (atBit 2)) = true := by decide
/-- 95_test_vectors.md 2.4, step 19. -/
theorem test_bit0_phase2 :
    onNext (fun t => t.hold && t.pin == .driven false && t.log == [.drive false .ok]) (exec .bit0 (atBit 2)) = true := by
  decide
/-- 95_test_vectors.md 2.4, step 14: the end of phase 3 goes to the next bit. -/
theorem test_emitBit_advances :
    onNext (fun t => t.bi == 1 && t.ph == 1 && !t.hold && t.log == []) (exec (.emitBit true) (held 3 0)) = true := by decide
/-- 95_test_vectors.md 2.6, row 6: a 0 bit's phase 2 fails; P3's `STATUS`. -/
theorem test_abort :
    onNext (fun t => t.fsm == .aborted && t.statusWord == 9 && t.errinfo == 0xDEAD0001 && t.ph == 2 && t.pin == .unknown)
      (exec .bit0 (failing (atBit 2))) = true := by decide
/-- 41_bit_encoder.md R140's example. -/
theorem test_driveHigh :
    onNext (fun t => t.pin == .driven true && t.log == [.drive true .ok]) (exec .driveHigh idle) = true := by decide
/-- 41_bit_encoder.md R141's example: no edge. -/
theorem test_driveLow :
    onNext (fun t => t.pin == .driven false && t.log == [.drive false .ok] && edges false t.trace == 0)
      (exec .driveLow idle) = true := by decide
/-- 40_delay_primitive.md R120's example: `DELAY 3` with the pin high. -/
theorem test_delay_3 :
    onNext (fun t => t.dly == 0 && !t.hold && t.trace == List.replicate 3 (.tick (.driven true)))
      (repeated (exec (.delay 3)) 5 { idle with pin := .driven true }) = true := by decide
/-- 40_delay_primitive.md R124: `DELAY 0` emits no tick. -/
theorem test_delay_0 :
    onNext (fun t => t.dly == 0 && !t.hold && t.trace == []) (repeated (exec (.delay 0)) 2 idle) = true := by decide
/-- 42_frame_sequencer.md R166's example: 901 ticks at `CAL = 50`. -/
theorem test_latch_start :
    onNext (fun t => t.dly == 901 && t.hold && t.log == [.drive false .ok]) (step { atLatch with cal := 50 }) = true := by
  decide
/-- 42_frame_sequencer.md R167. -/
theorem test_latch_end :
    onNext (fun t => t.fsm == .done && t.statusWord == 5 && t.log == [.result .ok]) (step { atLatch with hold := true })
      = true := by decide
/-- 70_reset_and_hazards.md R250: a reset cuts a frame where it stands. -/
theorem test_reset_while_busy :
    onNext (fun t => t.fsm == .unconstructed && t.statusWord == 0 && t.pin == .unknown && t.log == [])
      (step { held 1 2 with resets := [0] }) = true := by decide
/-- 42_frame_sequencer.md R175: a stall tick while a phase is held. -/
theorem test_stall :
    onNext (fun t => t.log == [.tick (.driven false)] && t.dly == 2 && t.stalls == [4]) (step { held 1 2 with stalls := [5] })
      = true := by decide
/-- 95_test_vectors.md 2.1: `DELAY 3` with 2 stall ticks. -/
theorem test_delay_3_stalled :
    runStalled (fun _ => .ok) 0 (.driven true) [2] [.delay 3] = List.replicate 5 (.tick (.driven true)) ++ [.result .ok] := by
  decide
/-- 95_test_vectors.md P5: 5 stall ticks in phase 1 of a first bit, a 0 at `CAL = 1`: `111111 00`. -/
theorem test_bit0_stalled :
    waveform (runStalled (fun _ => .ok) 0 (.driven false) [0, 5] (bitOps 1 false)) =
      List.replicate 6 (.driven true) ++ List.replicate 2 (.driven false) := by decide
/-- 42_frame_sequencer.md R162 to R165, 40_delay_primitive.md R120: the choices before the 3 steps up to a first bit's
first request, the 2 of its hold of 1 tick, and the 3 of phase 2 of a 1. -/
theorem test_op_stalls : opStalls (fun j => j) 0 ((colorSteps 1 0x008000).take 3) = [0 + 1 + 2, 3 + 4, 5 + 6 + 7] := by decide
/-- 30_encoding.md R102: a program's lines become the command words of 95_test_vectors.md P4. -/
theorem test_program_lines :
    [Line.newIter 2, .newMhz 600, .newDefault, .write [0xFF00], .newIter 65536].map Line.action =
      [some (.command 2 []), some (.command 0x40000258 []), some (.command 0x32 []),
       some (.command 0x80000000 [0xFF00]), none] := by decide

/-! ## The next step after reset runs a placed word -/

theorem test_placed_command :
    onNext (fun t => t.cal == 7 && t.fsm == .idle) (step (State.reset.withFetchWord 32 7)) = true ∧
    onNext (fun t => t.cmderr) (step (State.reset.withFetchWord 32 0x80000000)) = true := by decide
theorem test_placed_operations :
    onNext (fun t => t.color == 0x123456) (step (State.reset.withFetchWord 24 0x123456)) = true ∧
    onNext (fun t => t.byte == 0xC3) (step (State.reset.withFetchWord 8 0xC3)) = true := by decide
theorem test_table_words :
    decodeTableWord 32 0x32 = some .newDefault ∧ decodeTableWord 32 0 = some (.newIter 0) ∧
    decodeTableWord 32 0x40000000 = some (.newMhz 0) ∧ decodeTableWord 32 0x80000000 = some .write ∧
    decodeTableWord 8 0 = some .driveLow ∧ decodeTableWord 8 1 = some .driveHigh ∧
    decodeTableWord 8 4 = some .bit0 ∧ decodeTableWord 8 6 = some .bit1 ∧
    decodeTableWord 24 0x123456 = some (.emitColor 0x123456) := by decide

/-! ## Witnesses: the hypotheses of each statement can be met, each clause at a boundary -/

theorem witness_DecodeOfEncodeIsTheOperation :
    (Instr.newIter 65535).wellFormed = true ∧ (Instr.newMhz 65535).wellFormed = true ∧
    (Instr.delay 4294967295).wellFormed = true ∧ (Instr.emitBit true).wellFormed = true := by decide
theorem witness_EncodeOfDecodeIsTheWord :
    decode .H 0x4000FFFF = .ok (.newMhz 65535) ∧ decode .U 4294967295 = .ok (.delay 4294967295) := by decide
theorem witness_OtherNamesMeanTheSame :
    (Instr.newIter 50).wellFormed = true ∧ decode (Instr.newIter 50).format (encode (.newIter 50)) = .ok .newDefault ∧
    (Instr.emitBit true).wellFormed = true ∧ decode (Instr.emitBit true).format (encode (.emitBit true)) = .ok .bit1 := by
  decide
theorem witness_CalibrationIsMonotone :
    500 ≤ 720 ∧ 0 < 4 ∧ 4 ≤ 5 ∧ iterFromPs 5556 = some 60 ∧ iterFromPs 6667 = some 50 := by decide
theorem witness_NewIterConstructsOrIsRefused :
    65535 < 2 ^ 16 ∧ State.reset.fsm = .unconstructed ∧ idle.fsm ≠ .unconstructed := by decide
theorem witness_NewMhzConstructsOrIsRefused :
    65535 < 2 ^ 16 ∧ State.reset.fsm = .unconstructed ∧ idle.fsm ≠ .unconstructed := by decide
theorem witness_NewDefaultConstructsOrIsRefused :
    State.reset.fsm = .unconstructed ∧ idle.fsm ≠ .unconstructed := by decide
theorem witness_WriteStartsAFrameOrIsRefused :
    (idle.fsm = .idle ∧ idle.seq = [] ∧ idle.seq.length < 2 ^ 32) ∧
    ({ idle with fsm := .done, seq := [1] } : State).fsm = .done ∧
    ({ idle with fsm := .aborted, seq := [1] } : State).fsm = .aborted ∧
    ¬(State.reset.fsm = .idle ∨ State.reset.fsm = .done ∨ State.reset.fsm = .aborted) := by decide
theorem witness_TooLongStreamIsRefused :
    ∃ s : State, (s.fsm = .idle ∨ s.fsm = .done ∨ s.fsm = .aborted) ∧ 2 ^ 32 ≤ s.seq.length :=
  ⟨{ idle with seq := List.replicate (2 ^ 32) 0 }, .inl rfl, (List.length_replicate).ge⟩
theorem witness_DriveHighAsksThePin :
    idle.answerAt 0 = .ok ∧ (failing idle).answerAt 0 = .err 0xDEAD0001 ∧
    ({ idle with pinFallible := false } : State).pinFallible = false := by decide
theorem witness_DriveLowAsksThePin :
    idle.answerAt 0 = .ok ∧ (failing idle).answerAt 0 = .err 0xDEAD0001 ∧
    ({ idle with pinFallible := false } : State).pinFallible = false := by decide
theorem witness_DelayStepByStep :
    4294967295 < 2 ^ 32 ∧ idle.hold = false ∧ ((held 1 1).hold = true ∧ (held 1 1).dly ≠ 0) ∧
    ((held 1 0).hold = true ∧ (held 1 0).dly = 0) := by decide
theorem witness_DelayTakesItsTicks : 0 < 2 ^ 32 ∧ 4294967295 < 2 ^ 32 ∧ idle.hold = false := by decide
theorem witness_BitPhaseActionThenHold :
    ((atBit 1).fsm = .emittingBit ∧ (atBit 1).hold = false ∧ (atBit 1).ph = 1 ∧ (atBit 1).answerAt 0 = .ok) ∧
    ((atBit 2).fsm = .emittingBit ∧ (atBit 2).ph = 2 ∧ (atBit 2).answerAt 0 = .ok) ∧
    ((atBit 3).fsm = .emittingBit ∧ (atBit 3).ph = 3 ∧ (atBit 3).answerAt 0 = .ok) := by decide
theorem witness_BitPhaseFailureAborts :
    (failing (atBit 1)).fsm = .emittingBit ∧ (failing (atBit 1)).hold = false ∧ (failing (atBit 1)).ph = 1 ∧
    (failing (atBit 2)).ph = 2 ∧ (failing (atBit 3)).ph = 3 ∧
    (failing (atBit 1)).answerAt 0 = .err 0xDEAD0001 := by decide
theorem witness_BitHoldTicks :
    (held 1 1).fsm = .emittingBit ∧ (held 1 1).hold = true ∧ (held 1 1).dly ≠ 0 := by decide
theorem witness_BitHoldEndAdvances :
    ((held 2 0).fsm = .emittingBit ∧ (held 2 0).hold = true ∧ (held 2 0).dly = 0 ∧ (held 2 0).ph.toNat < 3) ∧
    ((held 3 0).ph = 3 ∧ ({ held 3 0 with bi := 6 } : State).bi.toNat < 7) ∧
    (({ held 3 0 with bi := 7, byi := 1 } : State).bi = 7 ∧ ({ held 3 0 with bi := 7, byi := 1 } : State).byi.toNat < 2) ∧
    (2 ≤ ({ held 3 0 with bi := 7, byi := 2, seq := [1, 2] } : State).byi.toNat ∧
      ({ held 3 0 with bi := 7, byi := 2, seq := [1, 2] } : State).ci.toNat + 1 < [1, 2].length) ∧
    ({ held 3 0 with bi := 7, byi := 2 } : State).seq.length ≤
      ({ held 3 0 with bi := 7, byi := 2 } : State).ci.toNat + 1 := by decide
/-- The start of a bit that is the `k`-th of byte `y`, of two colours and the pin infallible. -/
def bitOf (k : BitVec 3) (y : BitVec 2) (c : BitVec 32) : State :=
  { atBit 1 with pinFallible := false, bi := k, byi := y, ci := c, seq := [1, 2] }

theorem witness_WholeBitRunsItsOpList :
    (∀ k y c, (bitOf k y c).fsm = .emittingBit ∧ (bitOf k y c).hold = false ∧ (bitOf k y c).ph = 1 ∧
      (bitOf k y c).PinAlwaysOk) ∧
    (bitOf 6 2 1).bi.toNat < 7 ∧ ((bitOf 7 1 0).bi = 7 ∧ (bitOf 7 1 0).byi.toNat < 2) ∧
    (2 ≤ (bitOf 7 2 0).byi.toNat ∧ (bitOf 7 2 0).ci.toNat + 1 < (bitOf 7 2 0).seq.length) ∧
    (bitOf 7 2 1).seq.length ≤ (bitOf 7 2 1).ci.toNat + 1 :=
  ⟨fun _ _ _ => ⟨rfl, rfl, rfl, fun _ => rfl⟩, by decide, by decide, by decide, by decide⟩
theorem witness_EmitColorAndEmitByteLoad :
    ({ idle with fsm := .emittingColor } : State).fsm = .emittingColor ∧
    ({ idle with fsm := .emittingByte } : State).fsm = .emittingByte := by decide
theorem witness_LatchStepByStep :
    (atLatch.fsm = .latching ∧ atLatch.hold = false ∧ atLatch.answerAt 0 = .ok) ∧
    (failing atLatch).answerAt 0 = .err 0xDEAD0001 ∧
    (({ atLatch with hold := true, dly := 1 } : State).dly ≠ 0) ∧ ({ atLatch with hold := true } : State).dly = 0 := by
  decide
theorem witness_WholeLatchHoldsLowThenDone :
    atLatch.fsm = .latching ∧ atLatch.hold = false ∧ atLatch.answerAt 0 = .ok := by decide
theorem witness_LatchFollowsTheLastBit : [(0x123456 : Colour)] ≠ [] := by decide
theorem witness_PositionSaysTheOperation :
    (({ atBit 1 with fsm := .emittingColor } : State).seq[(0 : Nat)]? = some 0x008000) ∧
    ({ atBit 1 with fsm := .emittingByte, byi := 2 } : State).byi = 2 ∧ (atBit 1).fsm = .emittingBit ∧
    atLatch.fsm = .latching := by decide
theorem witness_EngineStepRunsItsOperation :
    (atBit 1).resetDue = false ∧ (atBit 1).busy = true ∧ (atBit 1).stallDue = 0 ∧
    (atBit 1).fetch = .word .S 0b110 ∧ decode .S 0b110 = .ok .bit1 := by decide
theorem witness_CommandStepRunsTheWord :
    (asking idle 0x80000000 [1]).resetDue = false ∧ (asking idle 0x80000000 [1]).busy = false ∧
    (asking idle 0x80000000 [1]).hostQueue = [.command 0x80000000 [1]] ∧ decode .H (0x80000000 : Word).toNat = .ok .write ∧
    decode .H (0x80000001 : Word).toNat = .reject .writeArgument := by decide
theorem witness_StallStepOnlyTakesTime :
    ({ held 1 2 with stalls := [1] } : State).resetDue = false ∧ ({ held 1 2 with stalls := [1] } : State).busy = true ∧
    ({ held 1 2 with stalls := [1] } : State).stallDue ≠ 0 := by decide
theorem witness_ResetEventInAnyState :
    ({ held 1 2 with resets := [0] } : State).resetDue = true ∧
    (idle.busy = false ∧ ({ idle with hostQueue := [.reset] } : State).hostQueue = .reset :: []) := by decide
theorem witness_PortClosedWhileBusy : (atBit 1).busy = true ∧ (∃ t, step (atBit 1) = .next t) ∧
    (atBit 1).resetDue = false := ⟨rfl, ⟨_, rfl⟩, rfl⟩
theorem witness_IdleEngineWaits : idle.busy = false ∧ idle.hostQueue = [] ∧ idle.resets = [] := by decide
theorem witness_HostReadsThreeRegisters : 5 ≤ 31 ∧ 3 ≤ 3 := by decide

/-- The invariants hold at the start of a bit. -/
theorem atBit_inv : (atBit 1).Inv := by constructor <;> decide

theorem witness_StepKeepsTheInvariants : (atBit 1).Inv ∧ ∃ t, step (atBit 1) = .next t := ⟨atBit_inv, _, rfl⟩
theorem witness_NoStopUnderTheInvariants : (atBit 1).Inv ∧ (atBit 1).StreamsFit :=
  ⟨atBit_inv, fun _ h => nomatch h⟩
theorem witness_CalibrationNeverChanges :
    (∃ t, idle.fsm ≠ .unconstructed ∧ step idle = .next t ∧ t.fsm ≠ .unconstructed) ∧
    (∃ s t : State, s.fsm ≠ .unconstructed ∧ step s = .next t ∧ t.fsm = .unconstructed) :=
  ⟨⟨_, by decide, rfl, by decide⟩, { held 1 2 with resets := [0] }, _, by decide, rfl, rfl⟩
theorem witness_CommandErrorIsSticky :
    ∃ t, ({ idle with cmderr := true } : State).cmderr = true ∧ step { idle with cmderr := true } = .next t :=
  ⟨_, rfl, rfl⟩
theorem witness_OnlyPinSetChangesThePin :
    (atBit 1).resetDue = false ∧ ((atBit 1).busy = false → (atBit 1).hostQueue.head? ≠ some .reset) ∧
    ∃ t, step (atBit 1) = .next t := ⟨rfl, by decide, _, rfl⟩
theorem witness_AbortOnlyByThePin :
    ∃ t, (failing (atBit 1)).fsm ≠ .aborted ∧ step (failing (atBit 1)) = .next t ∧ t.fsm = .aborted :=
  ⟨_, by decide, rfl, rfl⟩
theorem witness_InfalliblePinNeverAborts :
    ∃ s t : State, s.pinFallible = false ∧ s.err = false ∧ s.fsm ≠ .aborted ∧ step s = .next t :=
  ⟨{ atBit 1 with pinFallible := false }, _, rfl, rfl, by decide, rfl⟩
theorem witness_PositionNeverMovesBack :
    (atBit 1).Inv ∧ (atBit 1).busy = true ∧ (atBit 1).resetDue = false ∧ ∃ t, step (atBit 1) = .next t :=
  ⟨atBit_inv, rfl, rfl, _, rfl⟩
theorem witness_TraceOnlyGrows : ∃ t, step (held 1 1) = .next t := ⟨_, rfl⟩

/-- Before a `WRITE` of two colours, the pin infallible, low, and no stall to come. -/
def beforeWrite (cs : List Word) : State := { asking idle 0x80000000 cs with pinFallible := false }

theorem beforeWrite_about (cs : List Word) (h : cs.length < 2 ^ 32) : (beforeWrite cs).AboutToWrite cs [] :=
  ⟨rfl, rfl, rfl, h, rfl⟩

theorem beforeWrite_nominal (cs : List Word) : (beforeWrite cs).Nominal ∧ (beforeWrite cs).PinAlwaysOk :=
  ⟨⟨rfl, rfl⟩, fun _ => rfl⟩

theorem witness_FrameAgreesWithItsOpList : (beforeWrite [1, 2]).AboutToWrite [1, 2] [] ∧ (beforeWrite [1, 2]).Nominal :=
  ⟨beforeWrite_about _ (by decide), (beforeWrite_nominal _).1⟩
theorem witness_StallsLengthenNeverReorder : (beforeWrite [1, 2]).AboutToWrite [1, 2] [] :=
  beforeWrite_about _ (by decide)
theorem witness_EveryWriteEndsWithOneResult : (beforeWrite []).AboutToWrite [] [] := beforeWrite_about _ (by decide)
theorem witness_EmptyFrameIsTheLatchAlone :
    (beforeWrite []).AboutToWrite [] [] ∧ (beforeWrite []).Nominal ∧ (beforeWrite []).answerAt 0 = .ok :=
  ⟨beforeWrite_about _ (by decide), (beforeWrite_nominal _).1, rfl⟩
theorem witness_FrameLengthInTicks :
    (beforeWrite [1, 2]).AboutToWrite [1, 2] [] ∧ (beforeWrite [1, 2]).PinAlwaysOk ∧ (beforeWrite [1, 2]).Nominal :=
  ⟨beforeWrite_about _ (by decide), (beforeWrite_nominal _).2, (beforeWrite_nominal _).1⟩
theorem witness_EdgesOfAFrame :
    (beforeWrite [1]).AboutToWrite [1] [] ∧ (beforeWrite [1]).PinAlwaysOk ∧ (beforeWrite [1]).pin = .driven false ∧
    ({ beforeWrite [] with pin := .driven true } : State).AboutToWrite [] [] ∧
    ({ beforeWrite [] with pin := .driven true } : State).PinAlwaysOk :=
  ⟨beforeWrite_about _ (by decide), (beforeWrite_nominal _).2, rfl, ⟨rfl, rfl, rfl, by decide, rfl⟩, fun _ => rfl⟩
theorem witness_RequestsOfAFrame : (beforeWrite [1]).AboutToWrite [1] [] ∧ (beforeWrite [1]).PinAlwaysOk :=
  ⟨beforeWrite_about _ (by decide), (beforeWrite_nominal _).2⟩
theorem witness_SameColoursSameTrace :
    ∃ s s' : State, s ≠ s' ∧ s.AboutToWrite [1] [] ∧ s'.AboutToWrite [1] [] ∧ s.Nominal ∧ s'.Nominal ∧
      s.PinAlwaysOk ∧ s'.PinAlwaysOk ∧ s.cal = s'.cal ∧ s.pin = s'.pin :=
  ⟨beforeWrite [1], { beforeWrite [1] with color := 7, fsm := .done, done := true }, by decide,
    beforeWrite_about _ (by decide), ⟨rfl, rfl, rfl, by decide, rfl⟩, ⟨rfl, rfl⟩, ⟨rfl, rfl⟩, fun _ => rfl, fun _ => rfl,
    rfl, rfl⟩
theorem witness_EveryPlacementOfStallsIsPossible : (beforeWrite [1, 2]).AboutToWrite [1, 2] [] :=
  beforeWrite_about _ (by decide)

end Sys2Proof.Tests
end

/-! PROOFS. 00_scope.md: the latch's count fits its register (R10), and what a step adds to the trace (R13). -/

namespace Sys2Proof.Machine

/-! ## The latch's count -/

/-- `latch_iter` with this hardware's constants written out (10_state.md R22). -/
theorem latchIter_eq (c : Nat) : latchIter c = (6000 * c + 332) / 333 := by
  simp only [latchIter, Config.latchNs, Config.phaseNs, Nat.add_succ_sub_one]

/-- The count of a 16-bit `CAL` fits 32 bits (00_scope.md R10). -/
theorem latchIter_lt (cal : BitVec 16) : latchIter cal.toNat < 2 ^ 32 := by
  have := cal.isLt
  rw [latchIter_eq]; omega

@[simp] theorem latchDelay_toNat (cal : BitVec 16) : (latchDelay cal).toNat = latchIter cal.toNat := by
  rw [latchDelay, BitVec.toNat_ofNat, Nat.mod_eq_of_lt (latchIter_lt cal)]

/-- Settles O8: the count fits, so taking it as a word drops nothing. -/
theorem latchDelayHoldsTheCount : Obligations.LatchDelayHoldsTheCount :=
  fun cal => (latchDelay_toNat cal).trans (latchIter_eq _)

/-! ## What a step adds to the trace -/

/-- The events one step can add, newest first, as in the log. -/
inductive StepEvents : List Event → Prop where
  | silent : StepEvents []
  | tick (p : PinLevel) : StepEvents [.tick p]
  | request (l : Level) : StepEvents [.drive l .ok]
  | finish : StepEvents [.result .ok]
  | abort (l : Level) (e : Word) : StepEvents [.result (.err e), .drive l (.err e)]

theorem StepEvents.length_le {new : List Event} (h : StepEvents new) : new.length ≤ 2 := by
  cases h <;> simp

theorem StepEvents.ticks_le {new : List Event} (h : StepEvents new) : (waveform new).length ≤ 1 := by
  cases h <;> simp [waveform]

/-- `t` has the trace of `s` and after it what one step can add. -/
def State.Adds (s t : State) : Prop := ∃ new, StepEvents new ∧ t.log = new ++ s.log

theorem State.Adds.of_log_eq {s t : State} (h : t.log = s.log) : s.Adds t := ⟨[], .silent, h⟩

/-- What is added counts from the log alone. -/
theorem State.Adds.congr_left {s s' t : State} (h : s'.Adds t) (hlog : s'.log = s.log) : s.Adds t := by
  rwa [State.Adds, hlog] at h

theorem State.adds_tick (s : State) : s.Adds s.tick := ⟨_, .tick s.pin, s.tick_log⟩

@[simp] theorem State.holdPhase_log (s : State) : s.holdPhase.log = s.log := rfl

@[simp] theorem State.holdLatch_log (s : State) : s.holdLatch.log = s.log := rfl

@[simp] theorem State.takeReset_log (s : State) : s.takeReset.log = s.log := rfl

@[simp] theorem State.advance_log (s : State) : s.advance.log = s.log := by
  obtain ⟨-, h⟩ | ⟨-, -, h⟩ | ⟨-, -, -, h⟩ | ⟨-, -, -, -, h⟩ | ⟨-, -, -, -, h⟩ := s.advance_cases <;> rw [h]

@[simp] theorem State.construct_log (s : State) (n : Nat) : (s.construct n).log = s.log := by
  obtain ⟨-, h⟩ | ⟨-, h⟩ := s.construct_cases n <;> simp [h]

/-- Asking the pin adds the request, or the two events of the abort (60_exceptions.md R222). -/
theorem State.adds_driveThen (s : State) (l : Level) {next : State → State} (hnext : ∀ u, (next u).log = u.log) :
    s.Adds (s.driveThen l next) := by
  obtain ⟨-, h⟩ | ⟨e, -, h⟩ := s.driveThen_cases l next
  · exact ⟨_, .request l, by rw [h, hnext, pinTakes_log]; rfl⟩
  · exact ⟨_, .abort l e, by rw [h, raisePinError_log]; rfl⟩

theorem State.adds_of_bitStep {s t : State} {b : Bool} (h : s.bitStep b = .next t) : s.Adds t := by
  obtain ⟨-, ⟨-, -, rfl⟩ | ⟨-, -, rfl⟩ | ⟨-, -, rfl | ⟨l, rfl⟩⟩⟩ := State.bitStep_next h
  · exact s.adds_tick
  · exact .of_log_eq s.advance_log
  · exact .of_log_eq s.holdPhase_log
  · exact s.adds_driveThen l State.holdPhase_log

theorem State.adds_of_execLatch {s t : State} (h : execLatch s = .next t) : s.Adds t := by
  obtain ⟨-, ⟨-, -, rfl⟩ | ⟨-, -, rfl⟩ | ⟨-, rfl⟩⟩ := execLatch_next h
  · exact s.adds_tick
  · exact ⟨_, .finish, s.finish_log⟩
  · exact s.adds_driveThen false State.holdLatch_log

theorem EngineMove.adds {s t : State} (h : EngineMove s t) : s.Adds t := by
  cases h with
  | color c hf hc => exact .of_log_eq rfl
  | byte y hf hy => exact .of_log_eq rfl
  | bit _ h => exact State.adds_of_bitStep h
  | latch _ h => exact State.adds_of_execLatch h

/-- A move of the host is no event: the acceptance of a `WRITE` is none either (42_frame_sequencer.md R161). -/
theorem HostMove.log_eq {s t : State} (h : HostMove s t) : t.log = s.log := by
  cases h with
  | wait hq => rfl
  | reset rest hq => rfl
  | command w cs rest hq n => simp
  | write w cs rest hq _ h => obtain ⟨-, -, rfl⟩ | ⟨-, rfl⟩ := execWrite_next h <;> simp
  | illegal w cs rest hq => simp

/-- Every step adds what one step can add and takes nothing from the trace. -/
theorem step_adds {s t : State} (h : step s = .next t) : s.Adds t := by
  obtain ⟨-, rfl⟩ | ⟨-, -, -, rfl⟩ | ⟨-, -, -, hmove⟩ | ⟨-, -, hmove⟩ := step_cases h
  · exact .of_log_eq s.takeReset_log
  · exact ⟨_, .tick _, by rw [State.stallTick_log, State.countReset_log]; rfl⟩
  · exact hmove.adds.congr_left (by simp)
  · exact .of_log_eq (by rw [hmove.log_eq, State.countReset_log])

/-- Settles O49: each of the lists `StepEvents` allows has at most two events and at most one tick. -/
theorem traceOnlyGrows : Obligations.TraceOnlyGrows := by
  intro s t h
  obtain ⟨new, hnew, hlog⟩ := step_adds h
  exact ⟨new, hlog, hnew.length_le, hnew.ticks_le⟩

end Sys2Proof.Machine

/-! PROOFS. 10_state.md: the invariants hold after reset and every step keeps them, under them no step stops (R43); what
changes `CMDERR` (R36) and `PIN` (R31); the registers' values after reset and as the host reads them (R22, R32, R38,
R40). -/

namespace Sys2Proof.Machine

/-! ## A busy engine's step, case by case -/

/-- `EngineMove` with the steps of a bit and of the latch taken apart (42_frame_sequencer.md R162 to R167): a busy
engine loads a colour or a byte, holds, ends a hold, or starts one, with or without asking the pin. -/
inductive EngineAct (s : State) : State → Prop where
  | color (c : Colour) (hf : s.fsm = .emittingColor) (hc : colorAt s.seq s.ci.toNat = some c) :
      EngineAct s { s with color := c, byi := 0, fsm := .emittingByte }
  | byte (y : Byte) (hf : s.fsm = .emittingByte) (hy : sel s.color s.byi = some y) :
      EngineAct s { s with byte := y, bi := 0, ph := 1, hold := false, fsm := .emittingBit }
  | tick (hf : s.fsm = .emittingBit ∨ s.fsm = .latching) (hh : s.hold = true) (hd : s.dly ≠ 0) : EngineAct s s.tick
  | advance (hf : s.fsm = .emittingBit) (hh : s.hold = true) (hd : s.dly = 0) : EngineAct s s.advance
  | finish (hf : s.fsm = .latching) (hh : s.hold = true) (hd : s.dly = 0) : EngineAct s s.finish
  | hold (hf : s.fsm = .emittingBit) (hh : s.hold = false) : EngineAct s (s.startHold (phaseDelay s.cal))
  | drive (l : Level) (n : Word)
      (hn : s.fsm = .emittingBit ∧ n = phaseDelay s.cal ∨ s.fsm = .latching ∧ n = latchDelay s.cal)
      (hh : s.hold = false) (ha : s.answerAt 0 = .ok) : EngineAct s ((s.pinTakes l).startHold n)
  | abort (l : Level) (e : Word) (hf : s.fsm = .emittingBit ∨ s.fsm = .latching) (hh : s.hold = false)
      (ha : s.answerAt 0 = .err e) : EngineAct s (s.raisePinError l e)

/-- Asking the pin and then holding is a `drive` or the `abort`. -/
theorem EngineAct.of_driveThen {s : State} (l : Level) {next : State → State} {n : Word}
    (hnext : next (s.pinTakes l) = (s.pinTakes l).startHold n)
    (hn : s.fsm = .emittingBit ∧ n = phaseDelay s.cal ∨ s.fsm = .latching ∧ n = latchDelay s.cal)
    (hh : s.hold = false) : EngineAct s (s.driveThen l next) := by
  obtain ⟨ha, h⟩ | ⟨e, ha, h⟩ := s.driveThen_cases l next
  · rw [h, hnext]; exact .drive l n hn hh ha
  · rw [h]; exact .abort l e (hn.imp And.left And.left) hh ha

theorem EngineMove.act {s t : State} (h : EngineMove s t) : EngineAct s t := by
  cases h with
  | color c hf hc => exact .color c hf hc
  | byte y hf hy => exact .byte y hf hy
  | bit _ h =>
    obtain ⟨hf, ⟨hh, hd, rfl⟩ | ⟨hh, hd, rfl⟩ | ⟨hh, -, rfl | ⟨l, rfl⟩⟩⟩ := State.bitStep_next h
    · exact .tick (.inl hf) hh hd
    · exact .advance hf hh hd
    · exact .hold hf hh
    · exact .of_driveThen l rfl (.inl ⟨hf, rfl⟩) hh
  | latch _ h =>
    obtain ⟨hf, ⟨hh, hd, rfl⟩ | ⟨hh, hd, rfl⟩ | ⟨hh, rfl⟩⟩ := execLatch_next h
    · exact .tick (.inr hf) hh hd
    · exact .finish hf hh hd
    · exact .of_driveThen false rfl (.inr ⟨hf, rfl⟩) hh

/-- What a busy engine's step never touches: the calibration, the host's side and the pin's kind. -/
structure State.SameHostSide (s t : State) : Prop where
  cal : t.cal = s.cal
  constructed : t.constructed = s.constructed
  cmderr : t.cmderr = s.cmderr
  seq : t.seq = s.seq
  hostQueue : t.hostQueue = s.hostQueue
  pinFallible : t.pinFallible = s.pinFallible

theorem State.advance_sameHostSide (s : State) : s.SameHostSide s.advance := by
  obtain ⟨-, h⟩ | ⟨-, -, h⟩ | ⟨-, -, -, h⟩ | ⟨-, -, -, -, h⟩ | ⟨-, -, -, -, h⟩ := s.advance_cases <;>
    rw [h] <;> exact ⟨rfl, rfl, rfl, rfl, rfl, rfl⟩

theorem EngineMove.sameHostSide {s t : State} (h : EngineMove s t) : s.SameHostSide t := by
  cases h.act with
  | advance => exact s.advance_sameHostSide
  | color | byte | tick | finish | hold | drive | abort => constructor <;> simp

/-! ## The invariants (R43) -/

theorem Fsm.transmitting_of_emitting {f : Fsm} (h : f.emitting = true) : f.transmitting = true := by
  revert h; cases f <;> decide

theorem Fsm.transmitting_iff (f : Fsm) :
    f.transmitting = true ↔ f = .emittingColor ∨ f = .emittingByte ∨ f = .emittingBit ∨ f = .latching := by
  cases f <;> decide

theorem Fsm.ne_of_transmitting {f g : Fsm} (hf : f.transmitting = true) (hg : g.transmitting = false) : f ≠ g := by
  rintro rfl; rw [hf] at hg; cases hg

/-- The flags while a transmit is under way. -/
theorem State.Inv.flags_of_transmitting {s : State} (h : s.Inv) (hf : s.fsm.transmitting = true) :
    s.busy = true ∧ s.done = false ∧ s.err = false ∧ s.constructed = true := by
  refine ⟨h.busyExactly.trans hf, ?_, ?_, h.constructedExactly.mpr (Fsm.ne_of_transmitting hf rfl)⟩
  · exact Bool.eq_false_iff.mpr fun hd => Fsm.ne_of_transmitting hf rfl (h.doneExactly.mp hd)
  · exact Bool.eq_false_iff.mpr fun he => Fsm.ne_of_transmitting hf rfl (h.errExactly.mp he)

theorem State.Inv.hold_eq_false {s : State} (h : s.Inv) (hbit : s.fsm ≠ .emittingBit) (hlatch : s.fsm ≠ .latching) :
    s.hold = false :=
  Bool.eq_false_iff.mpr fun hh => (h.holdPosition hh).elim hbit hlatch

/-- `t` shows the flags of `s` and has its colours. -/
structure State.SameFlags (s t : State) : Prop where
  busy : t.busy = s.busy
  done : t.done = s.done
  err : t.err = s.err
  constructed : t.constructed = s.constructed
  seq : t.seq = s.seq

/-- The invariants do not speak of the rest of the state. -/
theorem State.Inv.congr {s t : State} (h : s.Inv) (hflags : s.SameFlags t) (hfsm : t.fsm = s.fsm) (hci : t.ci = s.ci)
    (hbyi : t.byi = s.byi) (hph : t.ph = s.ph) (hhold : t.hold = s.hold) (hdly : t.dly = s.dly) : t.Inv := by
  obtain ⟨hbusy, hdone, herr, hcons, hseq⟩ := hflags
  constructor <;> simp only [hbusy, hdone, herr, hcons, hseq, hfsm, hci, hbyi, hph, hhold, hdly]
  exacts [h.byteIndex, h.phase, h.noCountOutsideHold, h.holdPosition, h.colourExists, h.busyExactly, h.doneExactly,
    h.errExactly, h.constructedExactly, h.streamFits]

/-- A move from one transmitting state to another keeps the invariants of the flags; what is left is the position. -/
theorem State.Inv.of_sameFlags {s t : State} (h : s.Inv) (hflags : s.SameFlags t) (hs : s.fsm.transmitting = true)
    (ht : t.fsm.transmitting = true) (byteIndex : t.byi.toNat ≤ 2) (phase : t.ph = 1 ∨ t.ph = 2 ∨ t.ph = 3)
    (noCount : t.hold = false → t.dly = 0) (holdPosition : t.hold = true → t.fsm = .emittingBit ∨ t.fsm = .latching)
    (colourExists : t.fsm.emitting = true → (colorAt t.seq t.ci.toNat).isSome = true) : t.Inv := by
  obtain ⟨hb, hd, he, hc⟩ := h.flags_of_transmitting hs
  have hfits := h.streamFits hb
  rw [← hflags.seq] at hfits
  rw [← hflags.busy] at hb; rw [← hflags.done] at hd; rw [← hflags.err] at he; rw [← hflags.constructed] at hc
  refine ⟨byteIndex, phase, noCount, holdPosition, colourExists, hb.trans ht.symm,
    iff_of_false (by simp [hd]) (Fsm.ne_of_transmitting ht rfl),
    iff_of_false (by simp [he]) (Fsm.ne_of_transmitting ht rfl),
    iff_of_true hc (Fsm.ne_of_transmitting ht rfl), fun _ => hfits⟩

/-- Settles O40, clause by clause of R43. -/
theorem resetMeetsTheInvariants : Obligations.ResetMeetsTheInvariants where
  byteIndex := by decide
  phase := .inl rfl
  noCountOutsideHold _ := rfl
  holdPosition h := nomatch h
  colourExists h := nomatch h
  busyExactly := rfl
  doneExactly := by decide
  errExactly := by decide
  constructedExactly := by decide
  streamFits h := nomatch h

theorem State.inv_resetEvent (s : State) : s.resetEvent.Inv :=
  State.Inv.congr resetMeetsTheInvariants ⟨rfl, rfl, rfl, rfl, rfl⟩ rfl rfl rfl rfl rfl rfl

/-! ### The surroundings' own moves -/

theorem State.Inv.countReset {s : State} (h : s.Inv) : s.countReset.Inv := by
  refine h.congr ⟨?_, ?_, ?_, ?_, ?_⟩ ?_ ?_ ?_ ?_ ?_ ?_ <;> simp

theorem State.Inv.stallTick {s : State} (h : s.Inv) : s.stallTick.Inv := by
  refine h.congr ⟨?_, ?_, ?_, ?_, ?_⟩ ?_ ?_ ?_ ?_ ?_ ?_ <;> simp

theorem State.Inv.stallSpent {s : State} (h : s.Inv) : s.stallSpent.Inv := by
  refine h.congr ⟨?_, ?_, ?_, ?_, ?_⟩ ?_ ?_ ?_ ?_ ?_ ?_ <;> simp

/-! ### The engine's moves -/

theorem State.Inv.pinTakes {s : State} (h : s.Inv) (l : Level) : (s.pinTakes l).Inv :=
  h.congr ⟨rfl, rfl, rfl, rfl, rfl⟩ rfl rfl rfl rfl rfl rfl

/-- A hold that starts or goes on, in a bit or in the latch. -/
theorem State.Inv.held {s t : State} (h : s.Inv) (hflags : s.SameFlags t)
    (hf : s.fsm = .emittingBit ∨ s.fsm = .latching) (hfsm : t.fsm = s.fsm) (hci : t.ci = s.ci) (hbyi : t.byi = s.byi)
    (hph : t.ph = s.ph) (hhold : t.hold = true) : t.Inv := by
  have hs : s.fsm.transmitting = true := s.fsm.transmitting_iff.mpr (.inr (.inr hf))
  refine h.of_sameFlags hflags hs (hfsm ▸ hs) (hbyi ▸ h.byteIndex) (hph ▸ h.phase) ?_ (fun _ => hfsm ▸ hf) ?_
  · rw [hhold]; exact nofun
  · rw [hfsm, hflags.seq, hci]; exact h.colourExists

theorem State.Inv.startHold {s : State} (h : s.Inv) (n : Word) (hf : s.fsm = .emittingBit ∨ s.fsm = .latching) :
    (s.startHold n).Inv :=
  h.held ⟨rfl, rfl, rfl, rfl, rfl⟩ hf rfl rfl rfl rfl rfl

theorem State.Inv.tick {s : State} (h : s.Inv) (hf : s.fsm = .emittingBit ∨ s.fsm = .latching)
    (hh : s.hold = true) : s.tick.Inv :=
  h.held ⟨rfl, rfl, rfl, rfl, rfl⟩ hf rfl rfl rfl rfl hh

/-- A phase before the third is followed by the next one. -/
theorem phase_succ {p : BitVec 2} (h : p = 1 ∨ p = 2 ∨ p = 3) (hlt : p.toNat < 3) :
    p + 1 = 1 ∨ p + 1 = 2 ∨ p + 1 = 3 := by
  revert p; decide

/-- A byte index below 2 has room for one more. -/
theorem byteIndex_succ {k : BitVec 2} (hlt : k.toNat < 2) : (k + 1).toNat ≤ 2 := by
  revert k; decide

/-- The position of the next colour does not wrap, because the sequence has fewer than `2^32` colours (R24). -/
theorem State.Inv.ci_succ_toNat {s : State} (h : s.Inv) (hf : s.fsm.transmitting = true)
    (hnext : (colorAt s.seq (s.ci.toNat + 1)).isSome = true) : (s.ci + 1).toNat = s.ci.toNat + 1 := by
  have hfits := h.streamFits (h.busyExactly.trans hf)
  rw [colorAt_isSome] at hnext
  bv_omega

theorem State.Inv.advance {s : State} (h : s.Inv) (hf : s.fsm = .emittingBit) (hd : s.dly = 0) : s.advance.Inv := by
  have hs : s.fsm.transmitting = true := by rw [hf]; rfl
  have hcolour := h.colourExists (by rw [hf]; rfl)
  obtain ⟨hph, ha⟩ | ⟨-, -, ha⟩ | ⟨-, -, hbyi, ha⟩ | ⟨-, -, -, hnext, ha⟩ | ⟨-, -, -, -, ha⟩ := s.advance_cases <;>
    rw [ha]
  · exact h.of_sameFlags ⟨rfl, rfl, rfl, rfl, rfl⟩ hs hs h.byteIndex (phase_succ h.phase hph) (fun _ => hd) nofun
      fun _ => hcolour
  · exact h.of_sameFlags ⟨rfl, rfl, rfl, rfl, rfl⟩ hs hs h.byteIndex (.inl rfl) (fun _ => hd) nofun fun _ => hcolour
  · exact h.of_sameFlags ⟨rfl, rfl, rfl, rfl, rfl⟩ hs rfl (byteIndex_succ hbyi) (.inl rfl) (fun _ => hd) nofun
      fun _ => hcolour
  · refine h.of_sameFlags ⟨rfl, rfl, rfl, rfl, rfl⟩ hs rfl h.byteIndex (.inl rfl) (fun _ => hd) nofun fun _ => ?_
    rw [h.ci_succ_toNat hs hnext]; exact hnext
  · exact h.of_sameFlags ⟨rfl, rfl, rfl, rfl, rfl⟩ hs rfl h.byteIndex (.inl rfl) (fun _ => hd) nofun nofun

theorem State.Inv.finish {s : State} (h : s.Inv) (hf : s.fsm = .latching) (hd : s.dly = 0) : s.finish.Inv := by
  obtain ⟨-, -, he, hc⟩ := h.flags_of_transmitting (by rw [hf]; rfl)
  exact ⟨h.byteIndex, h.phase, fun _ => hd, nofun, nofun, rfl, by simp, by simp [he], by simp [hc], nofun⟩

theorem State.Inv.raisePinError {s : State} (h : s.Inv) (l : Level) (e : Word)
    (hf : s.fsm.transmitting = true) : (s.raisePinError l e).Inv := by
  obtain ⟨-, hd, -, hc⟩ := h.flags_of_transmitting hf
  exact ⟨h.byteIndex, h.phase, fun _ => rfl, nofun, nofun, rfl, by simp [hd], by simp, by simp [hc], nofun⟩

theorem EngineMove.inv {s t : State} (hmove : EngineMove s t) (h : s.Inv) : t.Inv := by
  cases hmove.act with
  | color c hf hc =>
    have hh : s.hold = false := h.hold_eq_false (by simp [hf]) (by simp [hf])
    exact h.of_sameFlags ⟨rfl, rfl, rfl, rfl, rfl⟩ (by rw [hf]; rfl) rfl (by simp) h.phase h.noCountOutsideHold
      (by simp [hh]) fun _ => h.colourExists (by rw [hf]; rfl)
  | byte y hf hy =>
    have hh : s.hold = false := h.hold_eq_false (by simp [hf]) (by simp [hf])
    exact h.of_sameFlags ⟨rfl, rfl, rfl, rfl, rfl⟩ (by rw [hf]; rfl) rfl h.byteIndex (.inl rfl)
      (fun _ => h.noCountOutsideHold hh) nofun fun _ => h.colourExists (by rw [hf]; rfl)
  | tick hf hh hd => exact h.tick hf hh
  | advance hf hh hd => exact h.advance hf hd
  | finish hf hh hd => exact h.finish hf hd
  | hold hf hh => exact h.startHold _ (.inl hf)
  | drive l n hn hh ha => exact (h.pinTakes l).startHold n (hn.imp And.left And.left)
  | abort l e hf hh ha => exact h.raisePinError l e (s.fsm.transmitting_iff.mpr (.inr (.inr hf)))

/-! ### The host's moves -/

theorem State.Inv.refuse {s : State} (h : s.Inv) : s.refuse.Inv :=
  h.congr ⟨rfl, rfl, rfl, rfl, rfl⟩ rfl rfl rfl rfl rfl rfl

/-- A new sequence on the colour stream is no matter while no transmit is under way. -/
theorem State.Inv.takeCommand {s : State} (h : s.Inv) (hb : s.busy = false) (rest : List HostAction)
    (cs : List Word) : (s.takeCommand rest cs).Inv := by
  have hrest : s.fsm.transmitting ≠ true := by rw [← h.busyExactly, hb]; exact nofun
  exact ⟨h.byteIndex, h.phase, h.noCountOutsideHold, h.holdPosition,
    fun he => absurd (Fsm.transmitting_of_emitting he) hrest, h.busyExactly, h.doneExactly, h.errExactly,
    h.constructedExactly, by simp [hb]⟩

theorem State.Inv.construct {s : State} (h : s.Inv) (n : Nat) : (s.construct n).Inv := by
  obtain ⟨hf, hc⟩ | ⟨-, hc⟩ := s.construct_cases n <;> rw [hc]
  · have hh : s.hold = false := h.hold_eq_false (by simp [hf]) (by simp [hf])
    have hb : s.busy = false := by rw [h.busyExactly, hf]; rfl
    have hdone : s.done = false := by simpa [hf] using h.doneExactly
    have herr : s.err = false := by simpa [hf] using h.errExactly
    exact ⟨h.byteIndex, h.phase, h.noCountOutsideHold, by simp [hh], nofun, hb, by simp [hdone], by simp [herr],
      by simp, by simp [hb]⟩
  · exact h.refuse

theorem State.Inv.startFrame {s : State} (h : s.Inv) (hf : s.fsm.acceptsWrite = true)
    (hfits : s.seq.length < 2 ^ 32) : s.startFrame.Inv := by
  have hc : s.constructed = true := h.constructedExactly.mpr fun hu => by rw [hu] at hf; cases hf
  refine ⟨by simp, .inl rfl, fun _ => rfl, nofun, ?_, ?_, ?_, ?_, ?_, fun _ => hfits⟩ <;>
    cases hcolour : (colorAt s.seq 0).isSome <;> simp [hcolour, hc, Fsm.emitting, Fsm.transmitting]

theorem HostMove.inv {s t : State} (hmove : HostMove s t) (h : s.Inv) (hb : s.busy = false) : t.Inv := by
  cases hmove with
  | wait hq => exact h
  | reset rest hq => exact State.inv_resetEvent _
  | command w cs rest hq n => exact (h.takeCommand hb rest cs).construct n
  | write w cs rest hq _ hw =>
    obtain ⟨hf, hfits, rfl⟩ | ⟨-, rfl⟩ := execWrite_next hw
    · exact (h.takeCommand hb rest cs).startFrame hf hfits
    · exact (h.takeCommand hb rest cs).refuse
  | illegal w cs rest hq => exact (h.takeCommand hb rest cs).refuse

/-- Settles O41, by what a step can do: a reset, a stall tick, a move of the engine or a move of the host. -/
theorem stepKeepsTheInvariants : Obligations.StepKeepsTheInvariants := by
  intro s t h hstep
  obtain ⟨-, rfl⟩ | ⟨-, -, -, rfl⟩ | ⟨-, -, -, hmove⟩ | ⟨-, hb, hmove⟩ := step_cases hstep
  · exact State.inv_resetEvent _
  · exact h.countReset.stallTick
  · exact hmove.inv h.countReset.stallSpent
  · exact hmove.inv h.countReset (by simpa using hb)

/-! ## Under the invariants no step stops -/

/-! ### A step by its branch -/

theorem step_reset {s : State} (hr : s.resetDue = true) : step s = .next s.takeReset := by
  simp [step, State.cycle, hr]

theorem step_stall {s : State} (hr : s.resetDue = false) (hb : s.busy = true) (hd : s.stallDue ≠ 0) :
    step s = .next s.countReset.stallTick := by
  simp [step, State.cycle, State.busyStep, hr, hb, hd]

theorem step_engine {s : State} (hr : s.resetDue = false) (hb : s.busy = true) (hd : s.stallDue = 0) :
    step s = s.countReset.stallSpent.engineStep := by
  simp [step, State.cycle, State.busyStep, hr, hb, hd]

theorem step_host {s : State} (hr : s.resetDue = false) (hb : s.busy = false) : step s = s.countReset.hostStep := by
  simp [step, State.cycle, hr, hb]

/-! ### The engine's step by its position -/

theorem State.engineStep_color {s : State} {c : Colour} (hf : s.fsm = .emittingColor)
    (hc : colorAt s.seq s.ci.toNat = some c) : s.engineStep = execEmitColor c s := by
  simp [State.engineStep, State.fetch, hf, hc, decode_colour, exec]

theorem State.engineStep_byte {s : State} {y : Byte} (hf : s.fsm = .emittingByte) (hy : sel s.color s.byi = some y) :
    s.engineStep = execEmitByte y s := by
  simp [State.engineStep, State.fetch, hf, hy, decode_byte, exec]

theorem State.engineStep_bit {s : State} (hf : s.fsm = .emittingBit) :
    s.engineStep = s.bitStep (bitAt s.byte s.bi) := by
  cases hb : bitAt s.byte s.bi <;>
    simp [State.engineStep, State.fetch, hf, hb, decode_symbolWord, exec, execBit0, execBit1]

theorem State.engineStep_latch {s : State} (hf : s.fsm = .latching) : s.engineStep = execLatch s := by
  simp [State.engineStep, State.fetch, hf, exec, show decode .F 0 = .ok .latch by decide]

/-! ### Progress -/

/-- Each of the byte indices 0, 1, 2 selects a byte (R25). -/
theorem sel_isSome (c : Colour) {k : BitVec 2} (hk : k.toNat ≤ 2) : (sel c k).isSome = true := by
  have : k = 0 ∨ k = 1 ∨ k = 2 := by revert k; decide
  obtain rfl | rfl | rfl := this <;> rfl

theorem State.phaseAction_goes_on {s : State} (hph : s.ph = 1 ∨ s.ph = 2 ∨ s.ph = 3) (b : Bool) :
    ∃ t, s.phaseAction b = .next t := by
  obtain h | h | h := hph
  · exact ⟨_, by rw [State.phaseAction, if_pos h]⟩
  · cases b <;> simp [State.phaseAction, h]
  · simp [State.phaseAction, h]

theorem State.bitStep_goes_on {s : State} (hf : s.fsm = .emittingBit) (hph : s.ph = 1 ∨ s.ph = 2 ∨ s.ph = 3)
    (b : Bool) : ∃ t, s.bitStep b = .next t := by
  rw [State.bitStep, if_pos hf]
  split
  · exact ⟨_, rfl⟩
  · exact State.phaseAction_goes_on hph b

theorem execLatch_goes_on {s : State} (hf : s.fsm = .latching) : ∃ t, execLatch s = .next t := by
  rw [execLatch, if_pos hf]
  split <;> exact ⟨_, rfl⟩

theorem execWrite_goes_on {s : State} (hfits : s.seq.length < 2 ^ 32) : ∃ t, execWrite s = .next t := by
  rw [execWrite, if_pos hfits]
  split <;> exact ⟨_, rfl⟩

/-- The invariants give each position of a transmit its operand and its guard. -/
theorem State.engineStep_goes_on {s : State} (h : s.Inv) (hs : s.fsm.transmitting = true) :
    ∃ t, s.engineStep = .next t := by
  obtain hf | hf | hf | hf := s.fsm.transmitting_iff.mp hs
  · obtain ⟨c, hc⟩ := Option.isSome_iff_exists.mp (h.colourExists (by rw [hf]; rfl))
    exact ⟨_, by rw [State.engineStep_color hf hc, execEmitColor, if_pos hf]⟩
  · obtain ⟨y, hy⟩ := Option.isSome_iff_exists.mp (sel_isSome s.color h.byteIndex)
    exact ⟨_, by rw [State.engineStep_byte hf hy, execEmitByte, if_pos hf]⟩
  · rw [State.engineStep_bit hf]; exact State.bitStep_goes_on hf h.phase _
  · rw [State.engineStep_latch hf]; exact execLatch_goes_on hf

/-- A host whose sequences fit is never stopped: its other words construct or are refused, and go on. -/
theorem State.hostStep_goes_on {s : State} (hfit : s.StreamsFit) : ∃ t, s.hostStep = .next t := by
  unfold State.hostStep
  split
  · exact ⟨_, rfl⟩
  · exact ⟨_, rfl⟩
  · rename_i w cs rest hq
    split
    · rename_i i hi
      obtain ⟨n, rfl⟩ | ⟨f, rfl⟩ | rfl | rfl := decode_command hi
      · exact ⟨_, rfl⟩
      · exact ⟨_, rfl⟩
      · exact ⟨_, rfl⟩
      · exact execWrite_goes_on (hfit _ (by rw [hq]; exact List.mem_cons_self) w cs rfl)
    · exact ⟨_, rfl⟩

/-! ### What the host has left to do -/

@[simp] theorem State.construct_hostQueue (s : State) (n : Nat) : (s.construct n).hostQueue = s.hostQueue := by
  obtain ⟨-, h⟩ | ⟨-, h⟩ := s.construct_cases n <;> simp [h]

theorem HostMove.hostQueue_suffix {s t : State} (h : HostMove s t) : t.hostQueue <:+ s.hostQueue := by
  cases h with
  | wait hq => exact List.suffix_rfl
  | reset rest hq => rw [hq]; exact List.suffix_cons ..
  | command w cs rest hq n => rw [hq, State.construct_hostQueue]; exact List.suffix_cons ..
  | write w cs rest hq _ hw =>
    rw [hq]
    obtain ⟨-, -, rfl⟩ | ⟨-, rfl⟩ := execWrite_next hw <;> exact List.suffix_cons ..
  | illegal w cs rest hq => rw [hq]; exact List.suffix_cons ..

/-- A step never adds to what the host will do. -/
theorem step_hostQueue_suffix {s t : State} (h : step s = .next t) : t.hostQueue <:+ s.hostQueue := by
  obtain ⟨-, rfl⟩ | ⟨-, -, -, rfl⟩ | ⟨-, -, -, hmove⟩ | ⟨-, -, hmove⟩ := step_cases h
  · exact List.suffix_rfl
  · simp
  · simp [hmove.sameHostSide.hostQueue]
  · simpa using hmove.hostQueue_suffix

theorem State.StreamsFit.of_suffix {s t : State} (h : s.StreamsFit) (hq : t.hostQueue <:+ s.hostQueue) :
    t.StreamsFit :=
  fun a ha => h a (hq.mem ha)

/-- Whatever branch a step takes, it answers a next state. -/
theorem State.Inv.step_goes_on {s : State} (h : s.Inv) (hfit : s.StreamsFit) : ∃ t, step s = .next t := by
  cases hr : s.resetDue with
  | true => exact ⟨_, step_reset hr⟩
  | false =>
    cases hb : s.busy with
    | true =>
      by_cases hd : s.stallDue = 0
      · rw [step_engine hr hb hd]
        exact State.engineStep_goes_on h.countReset.stallSpent (by simpa [← h.busyExactly] using hb)
      · exact ⟨_, step_stall hr hb hd⟩
    | false =>
      rw [step_host hr hb]
      exact State.hostStep_goes_on (hfit.of_suffix (by simp))

/-- Settles O42: the step goes on, and the host's queue after it is a suffix of the one before. -/
theorem noStopUnderTheInvariants : Obligations.NoStopUnderTheInvariants := by
  intro s h hfit
  obtain ⟨t, hstep⟩ := h.step_goes_on hfit
  exact ⟨t, hstep, hfit.of_suffix (step_hostQueue_suffix hstep)⟩

/-! ## `CMDERR` and `PIN` -/

/-- The host's moves but a reset leave the pin alone and never clear `CMDERR`. -/
theorem HostMove.pin_cmderr_or_reset {s t : State} (h : HostMove s t) :
    (t.pin = s.pin ∧ (s.cmderr = true → t.cmderr = true)) ∨ s.hostQueue.head? = some .reset := by
  cases h with
  | wait hq => exact .inl ⟨rfl, id⟩
  | reset rest hq => exact .inr (by rw [hq]; rfl)
  | command w cs rest hq n =>
    obtain ⟨-, h⟩ | ⟨-, h⟩ := (s.takeCommand rest cs).construct_cases n <;> rw [h]
    · exact .inl ⟨rfl, id⟩
    · exact .inl ⟨rfl, fun _ => rfl⟩
  | write w cs rest hq _ hw =>
    obtain ⟨-, -, rfl⟩ | ⟨-, rfl⟩ := execWrite_next hw
    · exact .inl ⟨rfl, id⟩
    · exact .inl ⟨rfl, fun _ => rfl⟩
  | illegal w cs rest hq => exact .inl ⟨rfl, fun _ => rfl⟩

/-- Settles O44: only the two kinds of reset clear `CMDERR`. -/
theorem commandErrorIsSticky : Obligations.CommandErrorIsSticky := by
  intro s t hc h
  obtain ⟨hr, -⟩ | ⟨-, -, -, rfl⟩ | ⟨-, -, -, hmove⟩ | ⟨-, hb, hmove⟩ := step_cases h
  · exact .inr (.inl hr)
  · exact .inl (by simpa using hc)
  · exact .inl (by simpa [hmove.sameHostSide.cmderr] using hc)
  · obtain ⟨-, hkeep⟩ | hreset := hmove.pin_cmderr_or_reset
    · exact .inl (hkeep (by simpa using hc))
    · exact .inr (.inr ⟨hb, by simpa using hreset⟩)

/-- `PIN` stays, or follows one `PinSet` whose events are all that happened (R31). -/
def State.PinFollows (s t : State) : Prop :=
  t.pin = s.pin ∨
  (∃ l, s.answerAt 0 = .ok ∧ t.pin = .driven l ∧ t.log = .drive l .ok :: s.log) ∨
  (∃ l e, s.answerAt 0 = .err e ∧ t.pin = .unknown ∧ t.log = .result (.err e) :: .drive l (.err e) :: s.log)

@[simp] theorem State.advance_pin (s : State) : s.advance.pin = s.pin := by
  obtain ⟨-, h⟩ | ⟨-, -, h⟩ | ⟨-, -, -, h⟩ | ⟨-, -, -, -, h⟩ | ⟨-, -, -, -, h⟩ := s.advance_cases <;> rw [h]

theorem EngineMove.pinFollows {s t : State} (h : EngineMove s t) : s.PinFollows t := by
  cases h.act with
  | advance => exact .inl s.advance_pin
  | color | byte | tick | finish | hold => exact .inl rfl
  | drive l n hn hh ha => exact .inr (.inl ⟨l, ha, rfl, rfl⟩)
  | abort l e hf hh ha => exact .inr (.inr ⟨l, e, ha, rfl, rfl⟩)

/-- Settles O45: a busy engine's moves alone ask the pin. -/
theorem onlyPinSetChangesThePin : Obligations.OnlyPinSetChangesThePin := by
  intro s t hr hq h
  obtain ⟨hr', -⟩ | ⟨-, -, -, rfl⟩ | ⟨-, -, -, hmove⟩ | ⟨-, hb, hmove⟩ := step_cases h
  · rw [hr] at hr'; cases hr'
  · exact .inl (by simp)
  · simpa [State.PinFollows] using hmove.pinFollows
  · obtain ⟨hpin, -⟩ | hreset := hmove.pin_cmderr_or_reset
    · exact .inl (by simpa using hpin)
    · exact absurd (by simpa using hreset) (hq hb)

/-! ## The registers' values -/

/-- The quotient rounded up is the least multiplier that reaches the product. -/
theorem latchIter_le_iff (c n : Nat) : latchIter c ≤ n ↔ 6000 * c ≤ n * 333 := by
  rw [latchIter_eq]; omega

/-- Settles O6: bound and minimality are the two directions of `latchIter_le_iff`. -/
theorem latchIterIsTheLeastCount : Obligations.LatchIterIsTheLeastCount :=
  ⟨fun c => ⟨latchIter_eq c, (latchIter_le_iff c _).mp le_rfl, fun n => (latchIter_le_iff c n).mpr⟩,
    rfl, rfl, rfl, rfl, rfl, rfl, rfl⟩

/-- Settles O36: `State.reset` is written as the table. -/
theorem resetStateHasTheTableValues : Obligations.ResetStateHasTheTableValues :=
  ⟨rfl, rfl, rfl, rfl, rfl, rfl, rfl, rfl, rfl, rfl, rfl, rfl, rfl, rfl, rfl⟩

theorem getLsbD_flagBit (f : Bool) {position : Nat} (h : position < 32) (k : Nat) :
    (flagBit f position).getLsbD k = (f && decide (position = k)) := by
  cases f with
  | false => simp [flagBit]
  | true =>
    rw [flagBit, if_pos rfl, BitVec.getLsbD_ofNat, Nat.testBit_two_pow, Bool.true_and]
    by_cases hk : position = k
    · simp [← hk, h]
    · simp [hk]

/-- Every bit of `STATUS` (R32). -/
theorem State.getLsbD_statusWord (s : State) (k : Nat) : s.statusWord.getLsbD k =
    (s.constructed && decide (0 = k) || s.busy && decide (1 = k) || s.done && decide (2 = k) ||
      s.err && decide (3 = k) || s.cmderr && decide (4 = k)) := by
  simp only [State.statusWord, BitVec.getLsbD_or, getLsbD_flagBit, Nat.reduceLT]

/-- Settles O39: the bits of `STATUS` by `State.getLsbD_statusWord`; the numbers of the registers by `readCsr`. -/
theorem hostReadsThreeRegisters : Obligations.HostReadsThreeRegisters := by
  intro s
  have hbit := s.getLsbD_statusWord
  refine ⟨(hbit 0).trans (by simp), (hbit 1).trans (by simp), (hbit 2).trans (by simp), (hbit 3).trans (by simp),
    (hbit 4).trans (by simp), fun k hk => ?_, ?_, rfl, rfl, fun n hn => ?_⟩
  · simp only [hbit, Bool.or_eq_false_iff, Bool.and_eq_false_iff, decide_eq_false_iff_not]
    omega
  · have := s.cal.isLt
    simp only [State.readCsr, if_true, Option.map_some, BitVec.toNat_setWidth, Option.some.injEq]
    omega
  · simp only [State.readCsr]
    rw [if_neg (by omega), if_neg (by omega), if_neg (by omega)]

end Sys2Proof.Machine

/-! PROOFS. 20_memory.md: the order of a colour's bits (R64, R65), and that a frame's events depend on nothing an
earlier `WRITE` left (R75, R76). For the latter the small steps are followed position by position
(42_frame_sequencer.md R173): in every environment they send what running the frame's op list sends, stall ticks and a
failing pin included. -/

namespace Sys2Proof.Machine

/-! ## The order of a colour's bits -/

/-- The bit positions of a colour in the order they are sent (R65). -/
theorem colourBits_eq (c : Colour) : colourBits c =
    [15, 14, 13, 12, 11, 10, 9, 8, 23, 22, 21, 20, 19, 18, 17, 16, 7, 6, 5, 4, 3, 2, 1, 0].map
      fun k => c.getLsbD k := by
  simp [colourBits, colourBytes, byteBits]

theorem colorOps_eq (cal : Nat) (c : Colour) : colorOps cal c = (colourBits c).flatMap (bitOps cal) :=
  List.flatMap_assoc.symm

/-- Settles O29: the op list of a colour is that of its bits, whose positions are `colourBits_eq`. -/
theorem colourBitsLeaveInOrder : Obligations.ColourBitsLeaveInOrder :=
  fun cal c => (colorOps_eq cal c).trans (congrArg (List.flatMap (bitOps cal)) (colourBits_eq c))

/-! ## The run of an op list, engine step by engine step -/

/-- Counting the environment's choices from `k` steps on. -/
theorem opStalls_add (stall : Nat → Nat) (j k : Nat) (steps : List Nat) :
    opStalls stall (j + k) steps = opStalls (fun i => stall (i + k)) j steps := by
  induction steps generalizing j with
  | nil => rfl
  | cons m steps ih => simp only [opStalls, Nat.add_right_comm j k, ih]

/-- Stall ticks before an op come first. -/
theorem runStalled_add (ask : Nat → Answer) (k : Nat) (p : PinLevel) (x y : Nat) (more : List Nat) (op : MicroOp)
    (ops : List MicroOp) : runStalled ask k p ((x + y) :: more) (op :: ops) =
      List.replicate x (.tick p) ++ runStalled ask k p (y :: more) (op :: ops) := by
  cases op with
  | drive l => simp only [runStalled, List.headD_cons, List.tail_cons, List.replicate_add, List.append_assoc]
  | delay n =>
    simp only [runStalled, List.headD_cons, List.tail_cons, Nat.add_left_comm n x y, List.replicate_add x,
      List.append_assoc]

/-- The first engine step of an op brings the stall ticks chosen for it. -/
theorem runStalled_opStalls_succ (ask : Nat → Answer) (p : PinLevel) (stall : Nat → Nat) (m : Nat) (steps : List Nat)
    (op : MicroOp) (ops : List MicroOp) : runStalled ask 0 p (opStalls stall 0 ((m + 1) :: steps)) (op :: ops) =
      List.replicate (stall 0) (.tick p) ++
        runStalled ask 0 p (opStalls (fun i => stall (i + 1)) 0 (m :: steps)) (op :: ops) := by
  have hsum : ((List.range (m + 1)).map fun i => stall (0 + i)).sum =
      stall 0 + ((List.range m).map fun i => stall (0 + i + 1)).sum := by
    simp [List.range_succ_eq_map, Function.comp_def]
  rw [opStalls, opStalls, hsum, runStalled_add, ← Nat.add_assoc, opStalls_add]

/-- A delay without ticks and steps left is over. -/
theorem runStalled_delay_zero (ask : Nat → Answer) (p : PinLevel) (stall : Nat → Nat) (steps : List Nat)
    (ops : List MicroOp) : runStalled ask 0 p (opStalls stall 0 (0 :: steps)) (.delay 0 :: ops) =
      runStalled ask 0 p (opStalls stall 0 steps) ops := by
  simp [runStalled, opStalls]

theorem runStalled_delay_succ (ask : Nat → Answer) (k : Nat) (p : PinLevel) (more : List Nat) (n : Nat)
    (ops : List MicroOp) : runStalled ask k p more (.delay (n + 1) :: ops) =
      [.tick p] ++ runStalled ask k p more (.delay n :: ops) := by
  simp [runStalled, Nat.add_right_comm n 1, List.replicate_succ]

/-- Counting the pin's answers from the next one on. -/
theorem runStalled_succ (ask : Nat → Answer) (k : Nat) (p : PinLevel) (more : List Nat) (ops : List MicroOp) :
    runStalled ask (k + 1) p more ops = runStalled (fun i => ask (i + 1)) k p more ops := by
  induction ops generalizing k p more with
  | nil => rfl
  | cons op ops ih => cases op <;> simp only [runStalled, ih]

theorem runStalled_drive_ok {ask : Nat → Answer} (h : ask 0 = .ok) (p : PinLevel) (stall : Nat → Nat)
    (steps : List Nat) (l : Level) (ops : List MicroOp) :
    runStalled ask 0 p (opStalls stall 0 (0 :: steps)) (.drive l :: ops) =
      .drive l .ok :: runStalled (fun i => ask (i + 1)) 0 (.driven l) (opStalls stall 0 steps) ops := by
  simp [runStalled, opStalls, h, runStalled_succ]

theorem runStalled_drive_err {ask : Nat → Answer} {e : Word} (h : ask 0 = .err e) (p : PinLevel) (stall : Nat → Nat)
    (steps : List Nat) (l : Level) (ops : List MicroOp) :
    runStalled ask 0 p (opStalls stall 0 (0 :: steps)) (.drive l :: ops) =
      [.drive l (.err e), .result (.err e)] := by
  simp [runStalled, opStalls, h]

theorem results_ticks (n : Nat) (p : PinLevel) (t : List Event) :
    results (List.replicate n (.tick p) ++ t) = results t := by
  simp [results, List.countP_replicate]

/-- Whatever the pin answers, the run has one `Result` (43_host_operations.md R196). -/
theorem results_runStalled (ask : Nat → Answer) (k : Nat) (p : PinLevel) (more : List Nat) (ops : List MicroOp) :
    results (runStalled ask k p more ops) = 1 := by
  induction ops generalizing k p more with
  | nil => rfl
  | cons op ops ih =>
    cases op with
    | drive l =>
      rw [runStalled, results_ticks]
      cases ask k with
      | ok => exact ih (k + 1) (.driven l) more.tail
      | err e => rfl
    | delay n => rw [runStalled, results_ticks, ih]

/-- Without a failing request it is the last event, and `Ok`. -/
theorem getLast?_runStalled_ok {ask : Nat → Answer} (hask : ∀ j, ask j = .ok) (k : Nat) (p : PinLevel)
    (more : List Nat) (ops : List MicroOp) : (runStalled ask k p more ops).getLast? = some (.result .ok) := by
  induction ops generalizing k p more with
  | nil => rfl
  | cons op ops ih => cases op <;> simp [runStalled, hask, ih, List.getLast?_append, List.getLast?_cons]

/-! ## The engine's next step, stall ticks before it included -/

/-- The state in which the engine takes its next step: the stall ticks due before it are in the trace, and the
environment's choice for it is used up. -/
def State.stalled (s : State) : State :=
  { s.stallSpent with log := List.replicate (s.stallAt 0) (.tick s.pin) ++ s.log }

@[simp] theorem State.stalled_log (s : State) :
    s.stalled.log = List.replicate (s.stallAt 0) (.tick s.pin) ++ s.log := rfl
@[simp] theorem State.stalled_pin (s : State) : s.stalled.pin = s.pin := s.stallSpent_pin
@[simp] theorem State.stalled_hostQueue (s : State) : s.stalled.hostQueue = s.hostQueue := s.stallSpent_hostQueue
@[simp] theorem State.stalled_answerAt (s : State) : s.stalled.answerAt = s.answerAt := funext s.answerAt_stallSpent
@[simp] theorem State.stalled_stallAt (s : State) : s.stalled.stallAt = fun k => s.stallAt (k + 1) :=
  funext s.stallAt_stallSpent

/-- The choices of stall ticks depend on the environment's own fields alone. -/
theorem State.stallAt_congr {s t : State} (hs : t.stalls = s.stalls) (hf : t.stallFree = s.stallFree)
    (hd : t.stallDraws = s.stallDraws) : t.stallAt = s.stallAt := by
  funext k
  simp only [State.stallAt, hs, hf, hd]

theorem State.stalled_of_stallDue_eq_zero {s : State} (h : s.stallDue = 0) : s.stalled = s.stallSpent := by
  rw [State.stalled, ← State.stallDue_eq, h, List.replicate_zero, List.nil_append, ← s.stallSpent_log]

/-- A stall tick is one of those the engine's next step has before it. -/
theorem State.stalled_stallTick {s : State} (h : s.stallDue ≠ 0) : s.stallTick.stalled = s.stalled := by
  have hlog : s.stallTick.stalled.log = s.stalled.log := by
    have := State.stallDue_stallTick h
    rw [State.stallDue_eq, State.stallDue_eq] at this
    simp [← this, List.replicate_succ']
  have hrest : { s.stallTick.stallSpent with log := s.stalled.log } = { s.stallSpent with log := s.stalled.log } := by
    cases hs : s.stalls with
    | nil =>
      cases hf : s.stallFree with
      | true => exact absurd (by simp [State.stallDue, hs, hf]) h
      | false => simp [State.stallTick, State.stallSpent, hs, hf]
    | cons n rest => simp [State.stallTick, State.stallSpent, hs]
  calc s.stallTick.stalled = { s.stallTick.stallSpent with log := s.stallTick.stalled.log } := rfl
    _ = { s.stallTick.stallSpent with log := s.stalled.log } := by rw [hlog]
    _ = s.stalled := hrest

/-- A transmit is under way, with the flags its acceptance set (R161), and no reset arrives. -/
def State.Sending (s : State) : Prop := s.busy = true ∧ s.done = false ∧ s.err = false ∧ s.resets = []

theorem State.Sending.stalled {s : State} (h : s.Sending) : s.stalled.Sending := by
  simpa [State.Sending, State.stalled] using h

theorem Leads.of_step {s t u : State} (h : step s = .next t) (htu : Leads t u) : Leads s u := by
  obtain ⟨k, hk⟩ := htu
  exact ⟨k + 1, by rw [repeated, h]; exact hk⟩

theorem State.countReset_of_resets_nil {s : State} (h : s.resets = []) : s.countReset = s := by
  simp [State.countReset, h]

/-- The stall ticks that are due and then the engine's step, as steps of the whole. -/
theorem State.Sending.leads {s t u : State} (hs : s.Sending) (hstep : s.stalled.engineStep = .next t)
    (htu : Leads t u) : Leads s u := by
  obtain ⟨hbusy, -, -, hresets⟩ := hs
  have hr : s.resetDue = false := by simp [State.resetDue, hresets]
  induction hn : s.stallDue generalizing s with
  | zero =>
    refine .of_step ?_ htu
    rw [step_engine hr hbusy hn, State.countReset_of_resets_nil hresets, ← State.stalled_of_stallDue_eq_zero hn, hstep]
  | succ n ih =>
    have hdue : s.stallDue ≠ 0 := by omega
    refine .of_step (step_stall hr hbusy hdue) ?_
    rw [State.countReset_of_resets_nil hresets]
    have := State.stallDue_stallTick hdue
    exact ih (by rwa [State.stalled_stallTick hdue]) (by simpa) (by simpa) (by simpa [State.resetDue] using hr)
      (by omega)

/-! ## The end of a transmit -/

/-- The transmit is over, by R167 or by the abort, and its `Result` is the last event. -/
def State.Ended (t : State) : Prop :=
  t.busy = false ∧
  ((t.fsm = .done ∧ t.done = true ∧ t.err = false ∧ t.log.head? = some (.result .ok)) ∨
   (t.fsm = .aborted ∧ t.err = true ∧ t.done = false ∧ t.log.head? = some (.result (.err t.errinfo))))

theorem State.Sending.finish_ended {s : State} (h : s.Sending) : s.finish.Ended := by
  obtain ⟨-, -, herr, -⟩ := h
  simp [State.Ended, herr]

theorem State.Sending.raisePinError_ended {s : State} (h : s.Sending) (l : Level) (e : Word) :
    (s.raisePinError l e).Ended := by
  obtain ⟨-, hdone, -, -⟩ := h
  simp [State.Ended, hdone]

/-- A transmit whose last event is `Result(Ok)` was not aborted. -/
theorem State.Ended.fsm_eq_done {t : State} (h : t.Ended) (hlast : t.trace.getLast? = some (.result .ok)) :
    t.fsm = .done := by
  obtain ⟨-, ⟨hf, -⟩ | ⟨-, -, -, hlog⟩⟩ := h
  · exact hf
  · rw [State.trace, List.getLast?_reverse, hlog] at hlast
    cases hlast

/-- The transmit under way in `s` ends, after exactly these events. -/
def State.EndsAfter (s : State) (events : List Event) : Prop :=
  ∃ t, Leads s t ∧ t.Ended ∧ t.hostQueue = s.hostQueue ∧ t.trace = s.trace ++ events

theorem State.Ended.endsAfter {s : State} (h : s.Ended) : s.EndsAfter [] := ⟨s, ⟨0, rfl⟩, h, rfl, by simp⟩

/-- One engine step: its stall ticks, its own events, and what comes after it. -/
theorem State.EndsAfter.of_engineStep {s t : State} {new events : List Event} (hs : s.Sending)
    (hstep : s.stalled.engineStep = .next t) (hlog : t.log = new.reverse ++ s.stalled.log)
    (ht : t.EndsAfter events) : s.EndsAfter (List.replicate (s.stallAt 0) (.tick s.pin) ++ (new ++ events)) := by
  obtain ⟨u, hlead, hend, hq, htrace⟩ := ht
  refine ⟨u, hs.leads hstep hlead, hend, ?_, ?_⟩
  · rw [hq, (State.engineStep_next hstep).sameHostSide.hostQueue, State.stalled_hostQueue]
  · rw [htrace, State.trace, hlog]; simp [State.trace]

/-- The transmit under way in `s` ends after what is left of its op list, `steps` saying how many engine steps are left
for each op. -/
def State.Runs (s : State) (steps : List Nat) (ops : List MicroOp) : Prop :=
  s.EndsAfter (runStalled s.answerAt 0 s.pin (opStalls s.stallAt 0 steps) ops)

/-! ## Positions -/

/-- The position (10_state.md R42) with its operands: what decides which operation the engine does next and with
which operand. The engine's own registers without the pin and the flags, and the lent colours. -/
structure Position where
  cal : BitVec 16
  fsm : Fsm
  ci : BitVec 32
  byi : BitVec 2
  bi : BitVec 3
  ph : BitVec 2
  hold : Bool
  color : Colour
  byte : Byte
  dly : Word
  seq : List Word

def State.position (s : State) : Position where
  cal := s.cal
  fsm := s.fsm
  ci := s.ci
  byi := s.byi
  bi := s.bi
  ph := s.ph
  hold := s.hold
  color := s.color
  byte := s.byte
  dly := s.dly
  seq := s.seq

@[simp] theorem State.stalled_position (s : State) : s.stalled.position = s.position := by
  simp [State.position, State.stalled]

/-- Wherever a transmit stands at the position `p`, it ends after what is left of its op list. -/
def Position.Runs (p : Position) (steps : List Nat) (ops : List MicroOp) : Prop :=
  ∀ s : State, s.Sending → s.position = p → s.Runs steps ops

/-- Where control goes from `p` at the end of the hold of its phase (R165). -/
def Position.next (p : Position) : Position :=
  if p.ph.toNat < 3 then { p with hold := false, dly := 0, ph := p.ph + 1 }
  else if p.bi.toNat < 7 then { p with hold := false, dly := 0, ph := 1, bi := p.bi + 1 }
  else if p.byi.toNat < 2 then { p with hold := false, dly := 0, ph := 1, byi := p.byi + 1, fsm := .emittingByte }
  else if (colorAt p.seq (p.ci.toNat + 1)).isSome then
    { p with hold := false, dly := 0, ph := 1, ci := p.ci + 1, fsm := .emittingColor }
  else { p with hold := false, dly := 0, ph := 1, fsm := .latching }

/-- At the end of a hold nothing is left of its count, which a position without a hold has at 0. -/
theorem State.advance_position {s : State} (hd : s.dly = 0) : s.advance.position = s.position.next := by
  simp only [State.advance, apply_ite State.position, Position.next, ← hd]
  simp only [State.position, State.endHold]
  rfl

/-! ### A request and the start of the hold after it -/

theorem State.Sending.pinTakes_startHold {s : State} (h : s.Sending) (l : Level) (n : Word) :
    ((s.pinTakes l).startHold n).Sending := by
  simpa [State.Sending] using h

theorem State.pinTakes_startHold_answerAt (s : State) (l : Level) (n : Word) :
    ((s.pinTakes l).startHold n).answerAt = fun k => s.answerAt (k + 1) :=
  funext (State.answerAt_next (by simp) (by simp) (by simp))

theorem State.pinTakes_startHold_stallAt (s : State) (l : Level) (n : Word) :
    ((s.pinTakes l).startHold n).stallAt = s.stallAt :=
  State.stallAt_congr (by simp) (by simp) (by simp)

theorem State.pinTakes_startHold_position (s : State) (l : Level) (n : Word) :
    ((s.pinTakes l).startHold n).position = { s.position with hold := true, dly := n } := by
  simp [State.position]

section Rules

variable {p q : Position} {m n : Nat} {steps : List Nat} {op op' : MicroOp} {ops : List MicroOp}

/-! ### The rules of one engine step -/

/-- An engine step that asks the pin nothing, with its events. -/
structure State.Moves (s t : State) (new : List Event) : Prop where
  sending : s.Sending → t.Sending
  log : t.log = new.reverse ++ s.log
  pin : t.pin = s.pin
  answerAt : t.answerAt = s.answerAt
  stallAt : t.stallAt = s.stallAt

/-- A step that asks the pin nothing falls to the op it is at, and may take something of it. -/
theorem Position.Runs.of_move {new : PinLevel → List Event}
    (hstep : ∀ s : State, s.position = p → ∃ t, s.engineStep = .next t ∧ s.Moves t (new s.pin) ∧ t.position = q)
    (hev : ∀ ask pin more, runStalled ask 0 pin more (op :: ops) = new pin ++ runStalled ask 0 pin more (op' :: ops))
    (hq : q.Runs (m :: steps) (op' :: ops)) : p.Runs ((m + 1) :: steps) (op :: ops) := by
  intro s hs hp
  obtain ⟨t, ht, hmove, htq⟩ := hstep s.stalled (s.stalled_position.trans hp)
  have hrun := hq t (hmove.sending hs.stalled) htq
  rw [State.Runs, hmove.pin, hmove.answerAt, hmove.stallAt] at hrun
  rw [State.Runs, runStalled_opStalls_succ, hev]
  simpa using State.EndsAfter.of_engineStep hs ht hmove.log hrun

/-- A silent step falls to the op it leads to. -/
theorem Position.Runs.of_silent
    (hstep : ∀ s : State, s.position = p → ∃ t, s.engineStep = .next t ∧ s.Moves t [] ∧ t.position = q)
    (hq : q.Runs (m :: steps) (op :: ops)) : p.Runs ((m + 1) :: steps) (op :: ops) :=
  .of_move (new := fun _ => []) hstep (fun _ _ _ => rfl) hq

/-- A delay without ticks and steps left is over. -/
theorem Position.Runs.of_delay_over (h : p.Runs steps ops) : p.Runs (0 :: steps) (.delay 0 :: ops) := by
  intro s hs hp
  rw [State.Runs, runStalled_delay_zero]
  exact h s hs hp

/-- A request, and the start of the hold after it unless the pin fails (R164, R166). -/
theorem Position.Runs.of_drive {l : Level} {w : Word}
    (hstep : ∀ s : State, s.position = p → s.engineStep = .next (s.driveThen l fun u => u.startHold w))
    (hq : Position.Runs { p with hold := true, dly := w } steps ops) : p.Runs (1 :: steps) (.drive l :: ops) := by
  rintro s hs rfl
  have hu := hstep s.stalled s.stalled_position
  rw [State.Runs, runStalled_opStalls_succ]
  obtain ⟨ha, hd⟩ | ⟨e, ha, hd⟩ := s.stalled.driveThen_cases l fun u => u.startHold w <;>
    rw [hd] at hu <;> rw [State.stalled_answerAt] at ha
  · have hrun := hq ((s.stalled.pinTakes l).startHold w) (hs.stalled.pinTakes_startHold l w)
      (by rw [State.pinTakes_startHold_position, State.stalled_position])
    rw [State.Runs, State.pinTakes_startHold_answerAt, State.pinTakes_startHold_stallAt, State.stalled_answerAt,
      State.stalled_stallAt] at hrun
    rw [runStalled_drive_ok ha]
    exact .of_engineStep (new := [.drive l .ok]) hs hu rfl hrun
  · rw [runStalled_drive_err ha]
    exact .of_engineStep (new := [.drive l (.err e), .result (.err e)]) hs hu rfl
      (hs.stalled.raisePinError_ended l e).endsAfter

/-- `EMIT_COLOR` (R162). -/
theorem Position.Runs.of_emitColor {c : Colour} (hf : p.fsm = .emittingColor) (hc : colorAt p.seq p.ci.toNat = some c)
    (h : Position.Runs { p with color := c, byi := 0, fsm := .emittingByte } (m :: steps) (op :: ops)) :
    p.Runs ((m + 1) :: steps) (op :: ops) := by
  refine .of_silent ?_ h
  rintro s rfl
  refine ⟨{ s with color := c, byi := 0, fsm := .emittingByte }, ?_, ⟨id, rfl, rfl, rfl, rfl⟩, rfl⟩
  exact (State.engineStep_color hf hc).trans (if_pos hf)

/-- `EMIT_BYTE` (R163). -/
theorem Position.Runs.of_emitByte {y : Byte} (hf : p.fsm = .emittingByte) (hy : sel p.color p.byi = some y)
    (h : Position.Runs { p with byte := y, bi := 0, ph := 1, hold := false, fsm := .emittingBit } (m :: steps)
      (op :: ops)) : p.Runs ((m + 1) :: steps) (op :: ops) := by
  refine .of_silent ?_ h
  rintro s rfl
  refine ⟨{ s with byte := y, bi := 0, ph := 1, hold := false, fsm := .emittingBit }, ?_, ⟨id, rfl, rfl, rfl, rfl⟩, rfl⟩
  exact (State.engineStep_byte hf hy).trans (if_pos hf)

/-! ### The hold (40_delay_primitive.md R120) -/

theorem State.engineStep_held_bit {s : State} (hf : s.fsm = .emittingBit) (hh : s.hold = true) :
    s.engineStep = .next (s.holdStep State.advance) := by
  rw [State.engineStep_bit hf, State.bitStep, if_pos hf, if_pos hh]

theorem State.engineStep_held_latch {s : State} (hf : s.fsm = .latching) (hh : s.hold = true) :
    s.engineStep = .next (s.holdStep State.finish) := by
  rw [State.engineStep_latch hf, execLatch, if_pos hf, if_pos hh]

theorem State.engineStep_tick {s : State} (hf : s.fsm = .emittingBit ∨ s.fsm = .latching) (hh : s.hold = true)
    (hd : s.dly ≠ 0) : s.engineStep = .next s.tick := by
  obtain hf | hf := hf
  · rw [State.engineStep_held_bit hf hh, State.holdStep_tick hd]
  · rw [State.engineStep_held_latch hf hh, State.holdStep_tick hd]

theorem Position.Runs.of_tick (hf : p.fsm = .emittingBit ∨ p.fsm = .latching) (hh : p.hold = true) (hd : p.dly ≠ 0)
    (h : Position.Runs { p with dly := p.dly - 1 } (m :: steps) (.delay n :: ops)) :
    p.Runs ((m + 1) :: steps) (.delay (n + 1) :: ops) := by
  refine .of_move (new := fun l => [.tick l]) ?_ (fun _ _ _ => runStalled_delay_succ ..) h
  rintro s rfl
  exact ⟨s.tick, State.engineStep_tick hf hh hd, ⟨id, rfl, rfl, rfl, rfl⟩, rfl⟩

/-- The ticks of a hold, in a bit or in the latch; what is left is its end. -/
theorem Position.Runs.of_held (hf : p.fsm = .emittingBit ∨ p.fsm = .latching) (hh : p.hold = true)
    (h : Position.Runs { p with dly := 0 } (1 :: steps) (.delay 0 :: ops)) :
    p.Runs ((p.dly.toNat + 1) :: steps) (.delay p.dly.toNat :: ops) := by
  induction hn : p.dly.toNat generalizing p with
  | zero =>
    have hd : p.dly = 0 := BitVec.eq_of_toNat_eq hn
    rwa [← hd] at h
  | succ n ih =>
    have hd : p.dly ≠ 0 := by rintro hd; simp [hd] at hn
    have := dly_pred hd
    exact .of_tick hf hh hd (ih (p := { p with dly := p.dly - 1 }) hf hh h (by simp only; omega))

theorem State.advance_moves (s : State) : s.Moves s.advance [] := by
  obtain ⟨-, h⟩ | ⟨-, -, h⟩ | ⟨-, -, -, h⟩ | ⟨-, -, -, -, h⟩ | ⟨-, -, -, -, h⟩ := s.advance_cases <;>
    rw [h] <;> exact ⟨id, rfl, rfl, rfl, rfl⟩

/-- The end of a hold in a bit takes a step, and no tick (R165). -/
theorem Position.Runs.of_hold_end (hf : p.fsm = .emittingBit) (hh : p.hold = true)
    (hd : p.dly = 0) (h : p.next.Runs steps ops) : p.Runs (1 :: steps) (.delay 0 :: ops) := by
  refine .of_silent ?_ h.of_delay_over
  rintro s rfl
  exact ⟨s.advance, by rw [State.engineStep_held_bit hf hh, State.holdStep_end hd], s.advance_moves,
    State.advance_position hd⟩

/-! ### The latch (R166, R167) -/

theorem State.engineStep_latch_end {s : State} (hf : s.fsm = .latching) (hh : s.hold = true) (hd : s.dly = 0) :
    s.engineStep = .next s.finish := by
  rw [State.engineStep_held_latch hf hh, State.holdStep_end hd]

theorem Position.Runs.of_latch_end (hf : p.fsm = .latching) (hh : p.hold = true) (hd : p.dly = 0) :
    p.Runs [1] [.delay 0] := by
  intro s hs hp
  rw [← s.stalled_position] at hp
  subst hp
  rw [State.Runs, runStalled_opStalls_succ, runStalled_delay_zero]
  exact .of_engineStep (new := [.result .ok]) hs (State.engineStep_latch_end hf hh hd) rfl
    hs.stalled.finish_ended.endsAfter

theorem State.engineStep_latch_start {s : State} (hf : s.fsm = .latching) (hh : s.hold = false) :
    s.engineStep = .next (s.driveThen false State.holdLatch) := by
  simp [State.engineStep_latch hf, execLatch, hf, hh]

theorem Position.Runs.of_latch (hf : p.fsm = .latching) (hh : p.hold = false) :
    p.Runs [1, latchIter p.cal.toNat + 1] (latchOps p.cal.toNat) := by
  refine .of_drive (w := latchDelay p.cal) ?_ ?_
  · rintro s rfl
    exact State.engineStep_latch_start hf hh
  · rw [← latchDelay_toNat]
    exact .of_held (p := { p with hold := true, dly := latchDelay p.cal }) (.inr hf) rfl (.of_latch_end hf rfl rfl)

/-! ### A bit (41_bit_encoder.md R142, 42_frame_sequencer.md R164, R165) -/

@[simp] theorem phaseDelay_toNat (cal : BitVec 16) : (phaseDelay cal).toNat = cal.toNat := by
  have := cal.isLt
  rw [phaseDelay, BitVec.toNat_setWidth]; omega

/-- The hold of a phase and its end. -/
theorem Position.Runs.of_phase_hold (hf : p.fsm = .emittingBit) (h : p.next.Runs steps ops) :
    Position.Runs { p with hold := true, dly := phaseDelay p.cal } ((p.cal.toNat + 1) :: steps)
      (.delay p.cal.toNat :: ops) := by
  rw [← phaseDelay_toNat]
  exact .of_held (p := { p with hold := true, dly := phaseDelay p.cal }) (.inl hf) rfl (.of_hold_end hf rfl rfl h)

theorem State.engineStep_phase {s : State} (hf : s.fsm = .emittingBit) (hh : s.hold = false) :
    s.engineStep = s.phaseAction (bitAt s.byte s.bi) := by
  simp [State.engineStep_bit hf, State.bitStep, hf, hh]

/-- The phases that ask the pin: the first for high, the second of a 0 and the third for low. -/
theorem State.phaseAction_drive {s : State} {b : Bool} {l : Level}
    (h : s.ph = 1 ∧ l = true ∨ (s.ph = 2 ∧ b = false ∨ s.ph = 3) ∧ l = false) :
    s.phaseAction b = .next (s.driveThen l State.holdPhase) := by
  obtain ⟨hph, rfl⟩ | ⟨⟨hph, rfl⟩ | hph, rfl⟩ := h <;> simp [State.phaseAction, hph]

/-- The second phase of a 1 asks the pin nothing. -/
theorem State.phaseAction_keep {s : State} {b : Bool} (hph : s.ph = 2) (hb : b = true) :
    s.phaseAction b = .next s.holdPhase := by
  simp [State.phaseAction, hph, hb]

theorem Position.Runs.of_phase_drive {l : Level} (hf : p.fsm = .emittingBit) (hh : p.hold = false)
    (hph : p.ph = 1 ∧ l = true ∨ (p.ph = 2 ∧ bitAt p.byte p.bi = false ∨ p.ph = 3) ∧ l = false)
    (h : p.next.Runs steps ops) :
    p.Runs (1 :: (p.cal.toNat + 1) :: steps) (.drive l :: .delay p.cal.toNat :: ops) := by
  refine .of_drive (w := phaseDelay p.cal) ?_ (.of_phase_hold hf h)
  rintro s rfl
  exact (State.engineStep_phase hf hh).trans (State.phaseAction_drive hph)

theorem Position.Runs.of_phase_keep
    (hf : p.fsm = .emittingBit) (hh : p.hold = false) (hph : p.ph = 2) (hb : bitAt p.byte p.bi = true)
    (h : p.next.Runs steps ops) : p.Runs ((p.cal.toNat + 2) :: steps) (.delay p.cal.toNat :: ops) := by
  refine .of_silent ?_ (.of_phase_hold hf h)
  rintro s rfl
  refine ⟨s.holdPhase, ?_, ⟨id, rfl, rfl, rfl, rfl⟩, rfl⟩
  exact (State.engineStep_phase hf hh).trans (State.phaseAction_keep hph hb)

theorem Position.next_phase (h : p.ph.toNat < 3) :
    p.next = { p with hold := false, dly := 0, ph := p.ph + 1 } := if_pos h

/-- A whole bit, from its first phase to the end of its third. -/
theorem Position.Runs.of_bit (hf : p.fsm = .emittingBit)
    (hh : p.hold = false) (hph : p.ph = 1) (h : Position.Runs { p with ph := 3 }.next steps ops) :
    p.Runs (bitSteps 0 p.cal.toNat (bitAt p.byte p.bi) ++ steps) (bitOps p.cal.toNat (bitAt p.byte p.bi) ++ ops) := by
  have h3 := Position.Runs.of_phase_drive (p := { p with hold := false, dly := 0, ph := 3 }) (l := false) hf rfl
    (.inr ⟨.inr rfl, rfl⟩) h
  have h1 : ∀ {steps ops}, Position.Runs { p with hold := false, dly := 0, ph := 2 } steps ops →
      p.Runs (1 :: (p.cal.toNat + 1) :: steps) (.drive true :: .delay p.cal.toNat :: ops) := fun h2 =>
    .of_phase_drive hf hh (.inl ⟨hph, rfl⟩) (by rwa [Position.next_phase (by rw [hph]; decide), hph])
  cases hb : bitAt p.byte p.bi with
  | true => exact h1 (.of_phase_keep hf rfl rfl hb h3)
  | false => exact h1 (.of_phase_drive hf rfl (.inr ⟨.inl ⟨rfl, hb⟩, rfl⟩) h3)

/-! ### Bits, bytes and colours in their order -/

theorem getElem?_of_drop_eq_cons {α : Type} {l : List α} {n : Nat} {x : α} {xs : List α} (h : l.drop n = x :: xs) :
    l[n]? = some x := by
  rw [← List.head?_drop, h, List.head?_cons]

theorem drop_succ_of_drop_eq_cons {α : Type} {l : List α} {n : Nat} {x : α} {xs : List α} (h : l.drop n = x :: xs) :
    l.drop (n + 1) = xs := by
  rw [← List.tail_drop, h, List.tail_cons]

theorem byteBits_getElem? (y : Byte) (k : BitVec 3) : (byteBits y)[k.toNat]? = some (bitAt y k) := by
  have h : byteBits y = (List.range 8).map fun i => y.getLsbD (7 - i) := rfl
  simp [h, bitAt, List.getElem?_range k.isLt]

theorem colourBytes_getElem? (c : Colour) (k : BitVec 2) : (colourBytes c)[k.toNat]? = sel c k := by
  have : k = 0 ∨ k = 1 ∨ k = 2 ∨ k = 3 := by revert k; decide
  obtain rfl | rfl | rfl | rfl := this <;> rfl

/-! Where the last phase of a bit leads, by what is left of the byte, of the colour and of the sequence (R165). -/

theorem Position.Runs.next_bit (hph : p.ph = 3) (hbi : p.bi.toNat < 7)
    (h : Position.Runs { p with hold := false, dly := 0, ph := 1, bi := p.bi + 1 } steps ops) :
    p.next.Runs steps ops := by
  simpa [Position.next, hph, hbi] using h

theorem Position.Runs.next_byte (hph : p.ph = 3) (hbi : p.bi = 7) (hbyi : p.byi.toNat < 2)
    (h : Position.Runs { p with hold := false, dly := 0, ph := 1, byi := p.byi + 1, fsm := .emittingByte } steps ops) :
    p.next.Runs steps ops := by
  rw [Position.next, if_neg (by simp [hph]), if_neg (by simp [hbi]), if_pos hbyi]; exact h

theorem Position.Runs.next_color (hph : p.ph = 3) (hbi : p.bi = 7) (hbyi : p.byi = 2)
    (hci : p.ci.toNat + 1 < p.seq.length)
    (h : Position.Runs { p with hold := false, dly := 0, ph := 1, ci := p.ci + 1, fsm := .emittingColor } steps ops) :
    p.next.Runs steps ops := by
  simpa [Position.next, hph, hbi, hbyi, hci, colorAt_isSome] using h

theorem Position.Runs.next_latch (hph : p.ph = 3) (hbi : p.bi = 7) (hbyi : p.byi = 2)
    (hci : p.seq.length = p.ci.toNat + 1)
    (h : Position.Runs { p with hold := false, dly := 0, ph := 1, fsm := .latching } steps ops) :
    p.next.Runs steps ops := by
  simpa [Position.next, hph, hbi, hbyi, hci, colorAt_isSome] using h

/-- The bits of a byte that are left, and then what follows its last bit. -/
theorem Position.Runs.of_bits {bs : List Bool} (hne : bs ≠ []) (hf : p.fsm = .emittingBit)
    (hh : p.hold = false) (hph : p.ph = 1) (hbs : (byteBits p.byte).drop p.bi.toNat = bs)
    (h : Position.Runs { p with ph := 3, bi := 7 }.next steps ops) :
    p.Runs (bs.flatMap (bitSteps 0 p.cal.toNat) ++ steps) (bs.flatMap (bitOps p.cal.toNat) ++ ops) := by
  induction bs generalizing p with
  | nil => exact absurd rfl hne
  | cons b bs ih =>
    have hb : bitAt p.byte p.bi = b := by simpa [byteBits_getElem?] using getElem?_of_drop_eq_cons hbs
    have hrest := drop_succ_of_drop_eq_cons hbs
    rw [List.flatMap_cons, List.flatMap_cons, List.append_assoc, List.append_assoc, ← hb]
    refine .of_bit hf hh hph ?_
    have hlen : 8 - p.bi.toNat = bs.length + 1 := List.length_drop.symm.trans (congrArg List.length hbs)
    cases bs with
    | nil =>
      have hbi : p.bi = 7 := by rw [List.length_nil] at hlen; bv_omega
      rwa [← hbi] at h
    | cons b' bs =>
      have hbi : p.bi.toNat < 7 := by rw [List.length_cons] at hlen; omega
      have hsucc : (p.bi + 1).toNat = p.bi.toNat + 1 := by bv_omega
      exact .next_bit rfl hbi (ih (List.cons_ne_nil _ _) hf rfl rfl ((congrArg (List.drop · _) hsucc).trans hrest) h)

/-- The bytes of a colour that are left, and then what follows the last bit of its last byte. -/
theorem Position.Runs.of_bytes {ys : List Byte} (hne : ys ≠ []) (hf : p.fsm = .emittingByte)
    (hys : (colourBytes p.color).drop p.byi.toNat = ys)
    (h : ∀ y, Position.Runs
      { p with byte := y, byi := 2, bi := 7, ph := 3, hold := false, fsm := .emittingBit }.next steps ops) :
    p.Runs (ys.flatMap (byteSteps 0 p.cal.toNat) ++ steps) (ys.flatMap (byteOps p.cal.toNat) ++ ops) := by
  induction ys generalizing p with
  | nil => exact absurd rfl hne
  | cons y ys ih =>
    have hy : sel p.color p.byi = some y := by rw [← colourBytes_getElem?, getElem?_of_drop_eq_cons hys]
    have hrest := drop_succ_of_drop_eq_cons hys
    rw [List.flatMap_cons, List.flatMap_cons, List.append_assoc, List.append_assoc]
    refine .of_emitByte hf hy (.of_bits (bs := byteBits y) (by simp [byteBits]) rfl rfl rfl rfl ?_)
    have hlen : 3 - p.byi.toNat = ys.length + 1 := List.length_drop.symm.trans (congrArg List.length hys)
    cases ys with
    | nil =>
      have hbyi : p.byi = 2 := by rw [List.length_nil] at hlen; bv_omega
      rw [← hbyi] at h
      exact h y
    | cons y' ys =>
      have hbyi : p.byi.toNat < 2 := by rw [List.length_cons] at hlen; omega
      have hsucc : (p.byi + 1).toNat = p.byi.toNat + 1 := by bv_omega
      exact .next_byte rfl rfl hbyi
        (ih (List.cons_ne_nil _ _) rfl ((congrArg (List.drop · _) hsucc).trans hrest) h)

/-- A whole colour. -/
theorem Position.Runs.of_colour {c : Colour} (hf : p.fsm = .emittingColor) (hc : colorAt p.seq p.ci.toNat = some c)
    (h : ∀ y, Position.Runs
      { p with color := c, byte := y, byi := 2, bi := 7, ph := 3, hold := false, fsm := .emittingBit }.next steps ops) :
    p.Runs (colorSteps p.cal.toNat c ++ steps) (colorOps p.cal.toNat c ++ ops) :=
  .of_emitColor hf hc (.of_bytes (ys := colourBytes c) (by simp [colourBytes]) rfl rfl h)

/-- The colours of a frame that are left, and its latch. -/
theorem Position.Runs.of_colours {cs : List Colour} (hne : cs ≠ []) (hf : p.fsm = .emittingColor)
    (hfits : p.seq.length < 2 ^ 32) (hcs : (p.seq.map portColour).drop p.ci.toNat = cs) :
    p.Runs (frameSteps p.cal.toNat cs) (frameOps p.cal.toNat cs) := by
  induction cs generalizing p with
  | nil => exact absurd rfl hne
  | cons c cs ih =>
    have hc : colorAt p.seq p.ci.toNat = some c := by
      rw [colorAt, ← List.getElem?_map, getElem?_of_drop_eq_cons hcs]
    have hrest := drop_succ_of_drop_eq_cons hcs
    have hlen : p.seq.length - p.ci.toNat = cs.length + 1 := by
      rw [← List.length_map (f := portColour), ← List.length_drop, hcs, List.length_cons]
    rw [frameSteps, frameOps, List.flatMap_cons, List.flatMap_cons, List.append_assoc, List.append_assoc]
    refine .of_colour hf hc fun y => ?_
    cases cs with
    | nil =>
      have hci : p.seq.length = p.ci.toNat + 1 := by rw [List.length_nil] at hlen; omega
      exact .next_latch rfl rfl rfl hci (.of_latch rfl rfl)
    | cons c' cs =>
      have hci : p.ci.toNat + 1 < p.seq.length := by rw [List.length_cons] at hlen; omega
      have hsucc : (p.ci + 1).toNat = p.ci.toNat + 1 := by bv_omega
      exact .next_color rfl rfl rfl hci
        (ih (List.cons_ne_nil _ _) rfl hfits ((congrArg (List.drop · _) hsucc).trans hrest))

end Rules

/-! ## The whole transmit -/

/-- The acceptance of a `WRITE` (R161). -/
theorem State.AboutToWrite.step_eq {s : State} {cs : List Word} {rest : List HostAction}
    (h : s.AboutToWrite cs rest) : step s = .next (s.takeCommand rest cs).startFrame := by
  have hr : s.resetDue = false := by simp [State.resetDue, h.noReset]
  have hdecode : decode .H (0x80000000#32).toNat = .ok .write := by decide
  rw [step_host hr h.notBusy, State.countReset_of_resets_nil h.noReset, State.hostStep, h.queue]
  simp only [hdecode, exec]
  exact (if_pos h.accepts).trans (if_pos h.fits)

/-- The frame that the acceptance starts runs its op list. -/
theorem State.AboutToWrite.startFrame_runs {s : State} {cs : List Word} {rest : List HostAction}
    (h : s.AboutToWrite cs rest) : (s.takeCommand rest cs).startFrame.Runs
      (frameSteps s.cal.toNat (cs.map portColour)) (frameOps s.cal.toNat (cs.map portColour)) := by
  have hsending : (s.takeCommand rest cs).startFrame.Sending := ⟨rfl, rfl, rfl, h.noReset⟩
  have hruns : (s.takeCommand rest cs).startFrame.position.Runs (frameSteps s.cal.toNat (cs.map portColour))
      (frameOps s.cal.toNat (cs.map portColour)) := by
    cases cs with
    | nil => exact .of_latch rfl rfl
    | cons c cs => exact .of_colours (by simp) rfl h.fits rfl
  exact hruns _ hsending rfl

/-- Small steps and op list agree (R173), in every environment and whatever the pin answers: the small steps of a
`WRITE` end, and the events on the way are those of running `FrameOps(cs)` with the stall ticks where the environment
puts them. -/
theorem State.AboutToWrite.ends {s : State} {cs : List Word} {rest : List HostAction} (h : s.AboutToWrite cs rest) :
    ∃ t, Leads s t ∧ t.Ended ∧ t.hostQueue = rest ∧
      t.trace = s.trace ++ runStalled s.answerAt 0 s.pin (s.frameStalls (cs.map portColour))
        (frameOps s.cal.toNat (cs.map portColour)) := by
  obtain ⟨t, hlead, hend, hq, htrace⟩ := h.startFrame_runs
  exact ⟨t, .of_step h.step_eq hlead, hend, hq, htrace⟩

/-- A `WRITE` without a failing request ends in `Done`. -/
theorem State.AboutToWrite.ends_done {s : State} {cs : List Word} {rest : List HostAction}
    (h : s.AboutToWrite cs rest) (hok : s.PinAlwaysOk) :
    ∃ t, Leads s t ∧ t.fsm = .done ∧ t.hostQueue = rest ∧
      t.trace = s.trace ++ runStalled s.answerAt 0 s.pin (s.frameStalls (cs.map portColour))
        (frameOps s.cal.toNat (cs.map portColour)) := by
  obtain ⟨t, hlead, hend, hq, htrace⟩ := h.ends
  refine ⟨t, hlead, hend.fsm_eq_done ?_, hq, htrace⟩
  rw [htrace, List.getLast?_append, getLast?_runStalled_ok hok, Option.some_or]

/-- Settles O57: in `State.AboutToWrite.ends` the events depend on the state only by `CAL`, `PIN`, the pin's answers and
the stall ticks, and these agree. -/
theorem sameColoursSameTrace : Obligations.SameColoursSameTrace := by
  intro s s' cs rest rest' h h' hnom hnom' hok hok' hcal hpin
  obtain ⟨t, hlead, hdone, hq, htrace⟩ := h.ends_done hok
  obtain ⟨t', hlead', hdone', hq', htrace'⟩ := h'.ends_done hok'
  have hask : s'.answerAt = s.answerAt := funext fun k => (hok' k).trans (hok k).symm
  have hstall : s'.stallAt = s.stallAt :=
    funext fun k => (State.stallAt_nominal hnom' k).trans (State.stallAt_nominal hnom k).symm
  rw [State.frameStalls, hask, hstall, ← hcal, ← hpin] at htrace'
  exact ⟨t, t', _, hlead, hlead', hdone, hdone', hq, hq', htrace, htrace', results_runStalled ..⟩

end Sys2Proof.Machine

/-! PROOFS. 30_encoding.md: what becomes of the host's command word, by what it decodes to (R99, R100). -/

namespace Sys2Proof.Machine

section HostWord

variable {s : State} {w : Word} {cs : List Word} {rest : List HostAction}

/-- A legal word is executed with its sequence on the colour stream (R99). -/
theorem State.hostStep_legal {i : Instr} (hq : s.hostQueue = .command w cs :: rest) (hi : decode .H w.toNat = .ok i) :
    s.hostStep = exec i (s.takeCommand rest cs) := by
  simp only [State.hostStep, hq, hi]

/-- An illegal word is refused, whatever is wrong with it (R100). -/
theorem State.hostStep_illegal {r : Reject} (hq : s.hostQueue = .command w cs :: rest)
    (hr : decode .H w.toNat = .reject r) : s.hostStep = .next (s.takeCommand rest cs).refuse := by
  simp only [State.hostStep, hq, hr]

end HostWord

/-- Settles O33: the step of an engine that is not busy is the host's move, which goes by the word. -/
theorem commandStepRunsTheWord : Obligations.CommandStepRunsTheWord := by
  intro s w cs rest hreset hbusy hq
  have hqueue : s.countReset.hostQueue = .command w cs :: rest := s.countReset_hostQueue.trans hq
  rw [step_host hreset hbusy]
  exact ⟨fun _ hi => State.hostStep_legal hqueue hi, fun _ hr => State.hostStep_illegal hqueue hr⟩

end Sys2Proof.Machine

/-! PROOFS. 40_delay_primitive.md: the steps of `DELAY` (R120) and a hold run to its end (R124). -/

namespace Sys2Proof.Machine

/-! ## The steps of `DELAY` -/

theorem exec_delay_start (n : Nat) {s : State} (hh : s.hold = false) :
    exec (.delay n) s = .next (s.startHold (BitVec.ofNat 32 n)) := by
  simp [exec, execDelay, hh]

theorem exec_delay_held (n : Nat) {s : State} (hh : s.hold = true) :
    exec (.delay n) s = .next (s.holdStep State.endHold) := by
  simp [exec, execDelay, hh]

/-- Settles O17: start, tick and end, by `HOLD` and `DLY`. -/
theorem delayStepByStep : Obligations.DelayStepByStep := by
  intro n s _
  refine ⟨exec_delay_start n, fun hh hd => ?_, fun hh hd => ?_⟩
  · rw [exec_delay_held n hh, State.holdStep_tick hd]; rfl
  · rw [exec_delay_held n hh, State.holdStep_end hd]; rfl

/-! ## A hold run to its end -/

theorem repeated_succ {f : State → Outcome} {s t : State} (h : f s = .next t) (k : Nat) :
    repeated f (k + 1) s = repeated f k t := by
  rw [repeated, h]

/-- The state once every tick of a hold that is under way has been taken. -/
def State.heldOut (s : State) : State :=
  { s with dly := 0, log := List.replicate s.dly.toNat (.tick s.pin) ++ s.log }

theorem State.heldOut_of_dly_zero {s : State} (hd : s.dly = 0) : s.heldOut = s := by
  have hlog : List.replicate s.dly.toNat (.tick s.pin) ++ s.log = s.log := by rw [hd]; rfl
  rw [State.heldOut, hlog, ← hd]

theorem State.heldOut_tick {s : State} (hd : s.dly ≠ 0) : s.tick.heldOut = s.heldOut := by
  have hlog : List.replicate (s.dly - 1).toNat (.tick s.pin) ++ .tick s.pin :: s.log =
      List.replicate s.dly.toNat (.tick s.pin) ++ s.log := by
    rw [← dly_pred hd, List.replicate_succ', List.append_assoc, List.singleton_append]
  exact congrArg (fun l => { s with dly := 0, log := l }) hlog

/-- An operation whose steps in a hold are `holdStep after` runs the hold to its end in `DLY + 1` steps: its ticks, and
then `after`, in which it goes on. A tick keeps `HOLD` and `FSM`, so the operation may ask for its own position. -/
theorem repeated_hold {f : State → Outcome} {after : State → State} {s : State} (hh : s.hold = true)
    (hf : ∀ t : State, t.hold = true → t.fsm = s.fsm → f t = .next (t.holdStep after)) (k : Nat) :
    repeated f (k + 1 + s.dly.toNat) s = repeated f k (after s.heldOut) := by
  induction hn : s.dly.toNat generalizing s with
  | zero =>
    have hd : s.dly = 0 := BitVec.eq_of_toNat_eq hn
    have hstep : f s = .next (after s) := by rw [hf s hh rfl, State.holdStep_end hd]
    rw [State.heldOut_of_dly_zero hd]
    exact repeated_succ hstep k
  | succ n ih =>
    have hd : s.dly ≠ 0 := by rintro hd; simp [hd] at hn
    have hstep : f s = .next s.tick := by rw [hf s hh rfl, State.holdStep_tick hd]
    have hleft : s.tick.dly.toNat = n := by have := dly_pred hd; rw [State.tick_dly]; omega
    rw [← Nat.add_assoc, repeated_succ hstep, ih (s := s.tick) hh hf hleft, State.heldOut_tick hd]

/-- Settles O18: the start, and then the hold run to its end; the count fits `DLY`. -/
theorem delayTakesItsTicks : Obligations.DelayTakesItsTicks := by
  intro n s hn hh
  have hcount : (s.startHold (BitVec.ofNat 32 n)).dly.toNat = n := by
    rw [State.startHold_dly, BitVec.toNat_ofNat, Nat.mod_eq_of_lt hn]
  have hhold := repeated_hold (s := s.startHold (BitVec.ofNat 32 n)) rfl (fun _ ht _ => exec_delay_held n ht) 0
  rw [State.heldOut, hcount] at hhold
  rw [repeated_succ (exec_delay_start n hh), Nat.add_comm]
  exact hhold

end Sys2Proof.Machine

/-! PROOFS. 41_bit_encoder.md: a whole bit run phase by phase (R142 to R144, R149), the edges, counts and waveform of its
op list (R145, R146), and the requests `DRIVE_HIGH` and `DRIVE_LOW` (R140, R141). -/

namespace Sys2Proof.Machine

/-! ## A whole bit, phase by phase -/

/-- The three names of a bit's step (R142 to R144). -/
theorem exec_eq_bitStep {i : Instr} {b : Bool}
    (h : i = .emitBit b ∨ (i = .bit0 ∧ b = false) ∨ (i = .bit1 ∧ b = true)) : exec i = fun s => s.bitStep b := by
  obtain rfl | ⟨rfl, rfl⟩ | ⟨rfl, rfl⟩ := h <;> rfl

/-- What a phase of a bit asks of the pin: the second phase of a 1 asks nothing (42_frame_sequencer.md R164). -/
def phaseRequest (b : Bool) (ph : BitVec 2) : Option Level :=
  if ph = 1 then some true else if ph = 2 ∧ b = true then none else some false

/-- The ops of one phase: its request, if it makes one, and its hold. -/
def phaseOps (cal : Nat) (b : Bool) (ph : BitVec 2) : List MicroOp :=
  (phaseRequest b ph).toList.map .drive ++ [.delay cal]

theorem bitOps_eq_phaseOps (cal : Nat) (b : Bool) :
    bitOps cal b = phaseOps cal b 1 ++ (phaseOps cal b 2 ++ phaseOps cal b 3) := by
  cases b <;> rfl

/-- The state once the pin has answered `Ok` to a request, if there is one. -/
def State.granted (s : State) : Option Level → State
  | none => s
  | some l => s.pinTakes l

theorem State.granted_position (s : State) (r : Option Level) : (s.granted r).position = s.position := by
  cases r <;> rfl

theorem State.granted_cal (s : State) (r : Option Level) : (s.granted r).cal = s.cal :=
  congrArg Position.cal (s.granted_position r)

theorem State.PinAlwaysOk.granted {s : State} (h : s.PinAlwaysOk) (r : Option Level) : (s.granted r).PinAlwaysOk := by
  cases r with
  | none => exact h
  | some l => exact fun k => (State.answerAt_next (s := s) (t := s.pinTakes l) rfl rfl rfl k).trans (h (k + 1))

/-- A granted request is what the op list's run does first. -/
theorem State.granted_events (s : State) (r : Option Level) (ops : List MicroOp) :
    (s.granted r).trace ++ runOps (fun _ => .ok) 0 (s.granted r).pin ops =
      s.trace ++ runOps (fun _ => .ok) 0 s.pin (r.toList.map .drive ++ ops) := by
  cases r with
  | none => rfl
  | some l => simp [State.granted, State.trace, runOps, runStalled_succ, runStalled]

/-- A phase of a bit has run: its request was granted, its hold is over, and control has gone on (R164, R165). -/
def State.afterPhase (s : State) (b : Bool) : State :=
  (s.granted (phaseRequest b s.ph)).holdPhase.heldOut.advance

theorem State.afterPhase_position (s : State) (b : Bool) : (s.afterPhase b).position = s.position.next := by
  rw [State.afterPhase, State.advance_position rfl, ← s.granted_position (phaseRequest b s.ph)]; rfl

theorem State.afterPhase_cal (s : State) (b : Bool) : (s.afterPhase b).cal = s.cal :=
  (State.advance_sameHostSide _).cal.trans (s.granted_cal _)

theorem State.afterPhase_pin (s : State) (b : Bool) :
    (s.afterPhase b).pin = (s.granted (phaseRequest b s.ph)).pin := State.advance_pin _

theorem State.afterPhase_log (s : State) (b : Bool) :
    (s.afterPhase b).log = List.replicate s.cal.toNat (.tick (s.afterPhase b).pin) ++
      (s.granted (phaseRequest b s.ph)).log := by
  rw [State.afterPhase_pin, ← phaseDelay_toNat, ← s.granted_cal (phaseRequest b s.ph)]
  exact State.advance_log _

/-- The ops of a phase are run: what the list still sends after them is sent from where the phase leads. -/
theorem State.afterPhase_events (s : State) (b : Bool) (ops : List MicroOp) :
    (s.afterPhase b).trace ++ runOps (fun _ => .ok) 0 (s.afterPhase b).pin ops =
      s.trace ++ runOps (fun _ => .ok) 0 s.pin (phaseOps s.cal.toNat b s.ph ++ ops) := by
  rw [phaseOps, List.append_assoc, ← State.granted_events, State.trace, State.afterPhase_log, State.afterPhase_pin]
  simp [State.trace]

theorem State.PinAlwaysOk.afterPhase {s : State} (h : s.PinAlwaysOk) (b : Bool) : (s.afterPhase b).PinAlwaysOk := by
  intro k
  rw [State.afterPhase, (State.advance_moves _).answerAt]
  exact h.granted _ k

/-- The start of the phase `n` of a bit, with a pin that will not fail. -/
structure State.AtPhase (s : State) (n : BitVec 2) : Prop where
  fsm : s.fsm = .emittingBit
  hold : s.hold = false
  ph : s.ph = n
  pinOk : s.PinAlwaysOk
  ph_cases : n = 1 ∨ n = 2 ∨ n = 3

section Phase

variable {s : State} {n : BitVec 2}

/-- The first step of a phase: its request, and the start of its hold (R164). -/
theorem State.AtPhase.bitStep_eq (h : s.AtPhase n) (b : Bool) :
    s.bitStep b = .next (s.granted (phaseRequest b s.ph)).holdPhase := by
  obtain ⟨hf, hh, rfl, hok, hph⟩ := h
  have hstep : s.bitStep b = s.phaseAction b := by simp [State.bitStep, hf, hh]
  have hdrive (l : Level) : s.driveThen l State.holdPhase = (s.pinTakes l).holdPhase := State.driveThen_ok (hok 0)
  rw [hstep]
  obtain hph | hph | hph := hph
  · rw [State.phaseAction_drive (.inl ⟨hph, rfl⟩), hdrive, hph]; rfl
  · cases b with
    | true => rw [State.phaseAction_keep hph rfl, hph]; rfl
    | false => rw [State.phaseAction_drive (.inr ⟨.inl ⟨hph, rfl⟩, rfl⟩), hdrive, hph]; rfl
  · rw [State.phaseAction_drive (.inr ⟨.inr hph, rfl⟩), hdrive, hph]; cases b <;> rfl

/-- A phase takes `CAL + 2` steps: its action, its ticks, and its end. -/
theorem State.AtPhase.repeated_bitStep (h : s.AtPhase n) (b : Bool) (k : Nat) :
    repeated (fun u => u.bitStep b) (k + (s.cal.toNat + 2)) s = repeated (fun u => u.bitStep b) k (s.afterPhase b) := by
  have hfsm : (s.granted (phaseRequest b s.ph)).fsm = .emittingBit :=
    (congrArg Position.fsm (s.granted_position _)).trans h.fsm
  have hlen : (s.granted (phaseRequest b s.ph)).holdPhase.dly.toNat = s.cal.toNat := by
    rw [State.holdPhase, State.startHold_dly, phaseDelay_toNat, State.granted_cal]
  have hhold := repeated_hold (f := fun u => u.bitStep b) (after := State.advance)
    (s := (s.granted (phaseRequest b s.ph)).holdPhase) rfl
    (fun t hh ht => by rw [State.bitStep, if_pos (ht.trans hfsm), if_pos hh]) k
  have hcount : k + (s.cal.toNat + 2) = k + 1 + s.cal.toNat + 1 := by omega
  rw [hcount, repeated_succ (h.bitStep_eq b), ← hlen]
  exact hhold

/-- The first and the second phase lead to the next one. -/
theorem State.AtPhase.afterPhase_position (h : s.AtPhase n) (hn : n.toNat < 3) (b : Bool) :
    (s.afterPhase b).position = { s.position with hold := false, dly := 0, ph := n + 1 } := by
  obtain ⟨-, -, rfl, -, -⟩ := h
  exact (s.afterPhase_position b).trans (Position.next_phase hn)

theorem State.AtPhase.afterPhase (h : s.AtPhase n) (hn : n.toNat < 3) (b : Bool) :
    (s.afterPhase b).AtPhase (n + 1) := by
  have hpos := h.afterPhase_position hn b
  exact ⟨(congrArg Position.fsm hpos).trans h.fsm, congrArg Position.hold hpos, congrArg Position.ph hpos,
    h.pinOk.afterPhase b, phase_succ h.ph_cases hn⟩

end Phase

/-- A whole bit has run. -/
def State.afterBit (s : State) (b : Bool) : State := ((s.afterPhase b).afterPhase b).afterPhase b

section Bit

variable {s : State}

theorem State.AtPhase.second (h : s.AtPhase 1) (b : Bool) : (s.afterPhase b).AtPhase 2 :=
  h.afterPhase (by decide) b

theorem State.AtPhase.third (h : s.AtPhase 1) (b : Bool) : ((s.afterPhase b).afterPhase b).AtPhase 3 :=
  (h.second b).afterPhase (by decide) b

theorem State.AtPhase.third_position (h : s.AtPhase 1) (b : Bool) :
    ((s.afterPhase b).afterPhase b).position = { s.position with hold := false, dly := 0, ph := 3 } := by
  rw [(h.second b).afterPhase_position (by decide), h.afterPhase_position (by decide)]
  rfl

theorem State.AtPhase.repeated_bit (h : s.AtPhase 1) (b : Bool) :
    repeated (fun u => u.bitStep b) (3 * (s.cal.toNat + 2)) s = .next (s.afterBit b) := by
  have hcal2 : (s.afterPhase b).cal = s.cal := s.afterPhase_cal b
  have hcal3 : ((s.afterPhase b).afterPhase b).cal = s.cal := (State.afterPhase_cal _ b).trans hcal2
  have hcount : 3 * (s.cal.toNat + 2) = 0 + (s.cal.toNat + 2) + (s.cal.toNat + 2) + (s.cal.toNat + 2) := by omega
  calc repeated (fun u => u.bitStep b) (3 * (s.cal.toNat + 2)) s
    _ = repeated (fun u => u.bitStep b) (0 + (s.cal.toNat + 2) + (s.cal.toNat + 2)) (s.afterPhase b) := by
      rw [hcount, h.repeated_bitStep]
    _ = repeated (fun u => u.bitStep b) (0 + (s.cal.toNat + 2)) ((s.afterPhase b).afterPhase b) := by
      rw [← hcal2, (h.second b).repeated_bitStep]
    _ = .next (s.afterBit b) := by
      rw [← hcal3, (h.third b).repeated_bitStep]; rfl

theorem State.AtPhase.afterBit_trace (h : s.AtPhase 1) (b : Bool) :
    (s.afterBit b).trace ++ [.result .ok] = s.trace ++ runOps (fun _ => .ok) 0 s.pin (bitOps s.cal.toNat b) := by
  rw [← runOps_nil (fun _ => .ok) 0 (s.afterBit b).pin, State.afterBit, State.afterPhase_events,
    State.afterPhase_events, State.afterPhase_events, h.ph, (h.second b).ph, (h.third b).ph,
    State.afterPhase_cal (s.afterPhase b), s.afterPhase_cal, List.append_nil, bitOps_eq_phaseOps]

/-- A bit ends with its third phase, which drives low. -/
theorem State.AtPhase.afterBit_pin (h : s.AtPhase 1) (b : Bool) : (s.afterBit b).pin = .driven false := by
  rw [State.afterBit, State.afterPhase_pin, (h.third b).ph]; cases b <;> rfl

theorem State.AtPhase.afterBit_position (h : s.AtPhase 1) (b : Bool) :
    (s.afterBit b).position = Position.next { s.position with ph := 3 } := by
  rw [State.afterBit, State.afterPhase_position, h.third_position]; rfl

end Bit

/-! Where the last phase of a bit leads (R165), as a position. -/

section LastPhase

variable {p : Position}

theorem Position.next_of_bit_left (hph : p.ph = 3) (hbi : p.bi.toNat < 7) :
    p.next = { p with hold := false, dly := 0, ph := 1, bi := p.bi + 1 } := by
  simp [Position.next, hph, hbi]

theorem Position.next_of_byte_left (hph : p.ph = 3) (hbi : p.bi = 7) (hbyi : p.byi.toNat < 2) :
    p.next = { p with hold := false, dly := 0, ph := 1, byi := p.byi + 1, fsm := .emittingByte } := by
  rw [Position.next, if_neg (by simp [hph]), if_neg (by simp [hbi]), if_pos hbyi]

theorem Position.next_of_color_left (hph : p.ph = 3) (hbi : p.bi = 7) (hbyi : 2 ≤ p.byi.toNat)
    (hci : p.ci.toNat + 1 < p.seq.length) :
    p.next = { p with hold := false, dly := 0, ph := 1, ci := p.ci + 1, fsm := .emittingColor } := by
  rw [Position.next, if_neg (by simp [hph]), if_neg (by simp [hbi]), if_neg (by omega),
    if_pos ((colorAt_isSome ..).mpr hci)]

theorem Position.next_of_nothing_left (hph : p.ph = 3) (hbi : p.bi = 7) (hbyi : 2 ≤ p.byi.toNat)
    (hci : p.seq.length ≤ p.ci.toNat + 1) :
    p.next = { p with hold := false, dly := 0, ph := 1, fsm := .latching } := by
  rw [Position.next, if_neg (by simp [hph]), if_neg (by simp [hbi]), if_neg (by omega),
    if_neg (by rw [colorAt_isSome]; omega)]

theorem Position.next_of_last_phase (hph : p.ph = 3) : p.next.hold = false ∧ p.next.dly = 0 ∧ p.next.ph = 1 := by
  rw [Position.next, if_neg (by simp [hph])]
  split_ifs <;> exact ⟨rfl, rfl, rfl⟩

end LastPhase

/-- Settles O23: the three phases one after the other, and the end of the third by what is left of the byte, of the
colour and of the sequence. -/
theorem wholeBitRunsItsOpList : Obligations.WholeBitRunsItsOpList := by
  intro i b s hi hf hh hph hok
  have h : s.AtPhase 1 := ⟨hf, hh, hph, hok, .inl rfl⟩
  have hpos := h.afterBit_position b
  have hrun := exec_eq_bitStep hi ▸ h.repeated_bit b
  have htrace := h.afterBit_trace b
  have hpin := h.afterBit_pin b
  generalize s.afterBit b = t at hpos hrun htrace hpin
  obtain ⟨hhold, hdly, hph1⟩ := Position.next_of_last_phase (p := { s.position with ph := 3 }) rfl
  rw [← hpos] at hhold hdly hph1
  refine ⟨t, hrun, htrace, hpin, hhold, hdly, hph1, fun hbi => ?_, fun hbi hbyi => ?_, fun hbi hbyi hci => ?_,
    fun hbi hbyi hci => ?_⟩
  · have hend := hpos.trans (Position.next_of_bit_left rfl hbi)
    exact ⟨(congrArg Position.fsm hend).trans hf, congrArg Position.bi hend, congrArg Position.byi hend,
      congrArg Position.ci hend⟩
  · have hend := hpos.trans (Position.next_of_byte_left rfl hbi hbyi)
    exact ⟨congrArg Position.fsm hend, (congrArg Position.bi hend).trans hbi, congrArg Position.byi hend,
      congrArg Position.ci hend⟩
  · have hend := hpos.trans (Position.next_of_color_left rfl hbi hbyi hci)
    exact ⟨congrArg Position.fsm hend, (congrArg Position.bi hend).trans hbi, congrArg Position.byi hend,
      congrArg Position.ci hend⟩
  · have hend := hpos.trans (Position.next_of_nothing_left rfl hbi hbyi hci)
    exact ⟨congrArg Position.fsm hend, (congrArg Position.bi hend).trans hbi, congrArg Position.byi hend,
      congrArg Position.ci hend⟩

/-! ## What is read off the op list of a bit -/

/-! Ticks show their level in the waveform and are no edge and no request; a request is not in the waveform (R13). -/

@[simp] theorem waveform_ticks (n : Nat) (p : PinLevel) (t : List Event) :
    waveform (List.replicate n (.tick p) ++ t) = List.replicate n p ++ waveform t := by
  simp [waveform]

@[simp] theorem waveform_nil : waveform [] = [] := rfl

@[simp] theorem waveform_drive (l : Level) (r : Answer) (t : List Event) : waveform (.drive l r :: t) = waveform t := rfl

@[simp] theorem waveform_result (r : Answer) (t : List Event) : waveform (.result r :: t) = waveform t := rfl

@[simp] theorem edges_ticks (l : Level) (n : Nat) (p : PinLevel) (t : List Event) :
    edges l (List.replicate n (.tick p) ++ t) = edges l t := by
  induction n with
  | zero => rfl
  | succ n ih => exact ih

@[simp] theorem requests_ticks (n : Nat) (p : PinLevel) (t : List Event) :
    requests (List.replicate n (.tick p) ++ t) = requests t := by
  simp [requests, List.countP_replicate]

@[simp] theorem requests_drive (l : Level) (r : Answer) (t : List Event) :
    requests (.drive l r :: t) = requests t + 1 := by
  simp [requests]

@[simp] theorem requests_nil : requests [] = 0 := rfl

@[simp] theorem requests_result (r : Answer) (t : List Event) : requests (.result r :: t) = requests t := by
  simp [requests]

/-- The events of a bit whose requests are granted: the second phase has the level of the bit, and asks for it only in a
0. -/
theorem runOps_bitOps (cal : Nat) (b : Bool) (p : PinLevel) :
    runOps (fun _ => .ok) 0 p (bitOps cal b) =
      .drive true .ok :: (List.replicate cal (.tick (.driven true)) ++
        ((if b then [] else [.drive false .ok]) ++
          (List.replicate cal (.tick (.driven b)) ++
            (.drive false .ok :: (List.replicate cal (.tick (.driven false)) ++ [.result .ok]))))) := by
  cases b <;> rfl

/-- Settles O24: the second phase goes on with the level of the first in a 1 and has that of the third in a 0. -/
theorem bitWaveformRatio : Obligations.BitWaveformRatio := by
  intro cal b p
  have hthree : waveform (runOps (fun _ => .ok) 0 p (bitOps cal b)) =
      List.replicate cal (.driven true) ++
        (List.replicate cal (.driven b) ++ List.replicate cal (.driven false)) := by
    rw [runOps_bitOps]; cases b <;> simp
  rw [hthree]
  cases b <;> simp only [if_true, Bool.false_eq_true, if_false, Nat.two_mul, List.replicate_add, List.append_assoc]

/-- Settles O25, from the events of `runOps_bitOps`: the request for high is an edge from low only, the first one for low
always, a second one for low never. -/
theorem bitCounts : Obligations.BitCounts := by
  intro cal b l
  have hedges : edges l (runOps (fun _ => .ok) 0 (.driven l) (bitOps cal b)) = if l then 1 else 2 := by
    rw [runOps_bitOps]; cases b <;> cases l <;> simp [edges]
  have hrequests : requests (runOps (fun _ => .ok) 0 (.driven l) (bitOps cal b)) = if b then 2 else 3 := by
    rw [runOps_bitOps]; cases b <;> simp
  refine ⟨hedges, hrequests, ?_, ?_⟩
  · cases b <;> simp [bitOps]
  · cases b <;> rfl

/-! ## `DRIVE_HIGH` and `DRIVE_LOW` -/

/-- Settles O15: the request for high, by its answer. -/
theorem driveHighAsksThePin : Obligations.DriveHighAsksThePin := by
  intro s
  have hexec : exec .driveHigh s = .next (s.driveThen true id) := rfl
  refine ⟨fun hok => ?_, fun e herr => ?_, fun hpin => State.answerAt_infallible hpin 0⟩
  · rw [hexec, State.driveThen_ok hok]; rfl
  · rw [hexec, State.driveThen_err herr]; rfl

/-- Settles O16: the request for low, by its answer. -/
theorem driveLowAsksThePin : Obligations.DriveLowAsksThePin := by
  intro s
  have hexec : exec .driveLow s = .next (s.driveThen false id) := rfl
  refine ⟨fun hok => ?_, fun e herr => ?_, fun hpin => State.answerAt_infallible hpin 0⟩
  · rw [hexec, State.driveThen_ok hok]; rfl
  · rw [hexec, State.driveThen_err herr]; rfl

end Sys2Proof.Machine

/-! PROOFS. 42_frame_sequencer.md: small steps and op list agree, stall ticks included (R168, R173, R175); the length, the
edges and the requests of a frame (R169, R171, R172, R176); the sequencer's operations step by step (R161 to R167), which
of them a position asks for, and that no position goes back (R42). -/

namespace Sys2Proof.Machine

/-! ## Stall ticks and op list -/

/-- A placement that puts no tick anywhere is the nominal run. -/
theorem runStalled_of_zeros (ask : Nat → Answer) (k : Nat) (p : PinLevel) {more : List Nat} (h : ∀ n ∈ more, n = 0)
    (ops : List MicroOp) : runStalled ask k p more ops = runOps ask k p ops := by
  induction ops generalizing k p more with
  | nil => rfl
  | cons op ops ih =>
    have hhead : more.headD 0 = 0 := by
      cases more with
      | nil => rfl
      | cons n more => exact h n List.mem_cons_self
    have htail (k p) := ih k p fun n hn => h n (List.mem_of_mem_tail hn)
    cases op with
    | drive l =>
      rw [runStalled, runOps_drive, hhead, List.replicate_zero, List.nil_append]
      cases ask k with
      | ok => exact congrArg (Event.drive l .ok :: ·) (htail (k + 1) (.driven l))
      | err e => rfl
    | delay n => rw [runStalled, runOps_delay, hhead, htail, Nat.add_zero]

theorem opStalls_eq_zero {stall : Nat → Nat} (h : ∀ i, stall i = 0) (j : Nat) (steps : List Nat) :
    ∀ n ∈ opStalls stall j steps, n = 0 := by
  induction steps generalizing j with
  | nil => simp [opStalls]
  | cons m steps ih => simpa [opStalls, h] using ih (j + m)

/-- In the nominal environment the frame's own placement puts no tick anywhere (00_scope.md R13). -/
theorem State.Nominal.runStalled_frameStalls {s : State} (h : s.Nominal) (cs : List Colour) (ask : Nat → Answer)
    (k : Nat) (p : PinLevel) (ops : List MicroOp) :
    runStalled ask k p (s.frameStalls cs) ops = runOps ask k p ops :=
  runStalled_of_zeros ask k p (opStalls_eq_zero (State.stallAt_nominal h) 0 _) ops

theorem State.Ended.fsm_done_or_aborted {t : State} (h : t.Ended) : t.fsm = .done ∨ t.fsm = .aborted :=
  h.2.imp And.left And.left

/-- Settles O50: `State.AboutToWrite.ends` where no stall tick comes. -/
theorem frameAgreesWithItsOpList : Obligations.FrameAgreesWithItsOpList := by
  intro s cs rest h hnom
  obtain ⟨t, hlead, hend, hq, htrace⟩ := h.ends
  rw [hnom.runStalled_frameStalls] at htrace
  exact ⟨t, hlead, hend.fsm_done_or_aborted, hend.1, hq, htrace⟩

/-- Settles O51: the events are those of the frame's own placement, and a placement only puts ticks in. -/
theorem stallsLengthenNeverReorder : Obligations.StallsLengthenNeverReorder := by
  intro s cs rest h
  obtain ⟨t, hlead, hend, hq, htrace⟩ := h.ends
  exact ⟨t, _, hlead, hend.fsm_done_or_aborted, hend.1, hq, htrace, rfl, runOps_sublist .., actions_runStalled ..⟩

/-! ## A placement of stall ticks as choices of the environment -/

/-- Choices for each engine step that put `more` on the ops whose engine steps are `steps`: an op's stall ticks all come
before its first step. -/
def placed : List Nat → List Nat → List Nat
  | _, [] => []
  | more, m :: steps => more.headD 0 :: (List.replicate (m - 1) 0 ++ placed more.tail steps)

/-- The first of the choices for an op is the op's, the others are 0, and then come the choices for the later ops. -/
theorem opStalls_placed (more steps : List Nat) {m : Nat} (hm : 0 < m) (free : Nat → Nat) :
    opStalls (fun i => ((placed more (m :: steps))[i]?).getD (free i)) 0 (m :: steps) =
      more.headD 0 :: opStalls (fun i => ((placed more.tail steps)[i]?).getD (free (i + m))) 0 steps := by
  obtain ⟨m, rfl⟩ := Nat.exists_eq_add_one.mpr hm
  have hlater (i : Nat) : (placed more ((m + 1) :: steps))[i + (m + 1)]? = (placed more.tail steps)[i]? := by
    rw [placed, Nat.add_sub_cancel, ← Nat.add_assoc, List.getElem?_cons_succ, List.getElem?_append_right (by simp)]
    simp
  have hzero (i : Nat) (hi : i < m) : (placed more ((m + 1) :: steps))[i + 1]? = some 0 := by
    rw [placed, List.getElem?_cons_succ, Nat.add_sub_cancel, List.getElem?_append_left (by simpa using hi)]
    simp [hi]
  have hsum : ((List.range (m + 1)).map fun i => ((placed more ((m + 1) :: steps))[0 + i]?).getD (free (0 + i))).sum =
      more.headD 0 := by
    rw [List.range_succ_eq_map, List.map_cons, List.sum_cons, List.map_map, List.sum_eq_zero, Nat.add_zero]
    · rfl
    · intro x hx
      obtain ⟨i, hi, rfl⟩ := List.mem_map.mp hx
      simp [hzero i (List.mem_range.mp hi)]
  rw [opStalls, hsum, opStalls_add]
  simp only [hlater]

/-- With these choices the op list runs as with the placement itself, whatever is chosen past them. -/
theorem runStalled_placed (ask : Nat → Answer) (k : Nat) (p : PinLevel) (more : List Nat) {steps : List Nat}
    (hpos : ∀ m ∈ steps, 0 < m) (free : Nat → Nat) {ops : List MicroOp} (hlen : steps.length = ops.length) :
    runStalled ask k p (opStalls (fun i => ((placed more steps)[i]?).getD (free i)) 0 steps) ops =
      runStalled ask k p more ops := by
  induction ops generalizing k p more steps free with
  | nil => rfl
  | cons op ops ih =>
    cases steps with
    | nil => cases hlen
    | cons m steps =>
      obtain ⟨hm, hpos⟩ := List.forall_mem_cons.mp hpos
      have hrest (k p) := ih k p more.tail hpos (fun i => free (i + m)) (Nat.succ.inj hlen)
      rw [opStalls_placed more steps hm free]
      cases op <;> simp only [runStalled, List.headD_cons, List.tail_cons, hrest]

theorem bitSteps_pos (before cal : Nat) (b : Bool) : ∀ m ∈ bitSteps before cal b, 0 < m := by
  cases b <;> simp [bitSteps]

theorem byteSteps_pos (before cal : Nat) (y : Byte) : ∀ m ∈ byteSteps before cal y, 0 < m := by
  simp only [byteSteps, byteBits, List.forall_mem_append, List.forall_mem_flatMap]
  exact ⟨bitSteps_pos _ _ _, fun b _ => bitSteps_pos _ _ b⟩

theorem colorSteps_pos (cal : Nat) (c : Colour) : ∀ m ∈ colorSteps cal c, 0 < m := by
  simp only [colorSteps, colourBytes, List.forall_mem_append, List.forall_mem_flatMap]
  exact ⟨byteSteps_pos _ _ _, fun y _ => byteSteps_pos _ _ y⟩

/-- Every op of a frame has an engine step. -/
theorem frameSteps_pos (cal : Nat) (cs : List Colour) : ∀ m ∈ frameSteps cal cs, 0 < m := by
  simp only [frameSteps, List.forall_mem_append, List.forall_mem_flatMap]
  exact ⟨fun c _ => colorSteps_pos cal c, by simp⟩

theorem length_byteSteps (before cal : Nat) (y : Byte) : (byteSteps before cal y).length = (byteOps cal y).length := by
  simp [byteSteps, byteOps, byteBits, length_bitSteps]

theorem length_colorSteps (cal : Nat) (c : Colour) : (colorSteps cal c).length = (colorOps cal c).length := by
  simp [colorSteps, colorOps, colourBytes, length_byteSteps]

theorem length_frameSteps (cal : Nat) (cs : List Colour) : (frameSteps cal cs).length = (frameOps cal cs).length := by
  simp [frameSteps, frameOps, latchOps, length_colorSteps]

/-- The environment whose written choices put `more` on the ops of a frame of the colours `cs`. -/
def State.placing (s : State) (more : List Nat) (cs : List Colour) : State :=
  { s with stalls := placed more (frameSteps s.cal.toNat cs) }

theorem State.runStalled_frameStalls_placing (s : State) (more : List Nat) (cs : List Colour) (ask : Nat → Answer)
    (k : Nat) (p : PinLevel) :
    runStalled ask k p ((s.placing more cs).frameStalls cs) (frameOps s.cal.toNat cs) =
      runStalled ask k p more (frameOps s.cal.toNat cs) :=
  runStalled_placed ask k p more (frameSteps_pos _ _) _ (length_frameSteps _ _)

theorem State.AboutToWrite.placing {s : State} {cs : List Word} {rest : List HostAction} (h : s.AboutToWrite cs rest)
    (more : List Nat) (colours : List Colour) : (s.placing more colours).AboutToWrite cs rest :=
  ⟨h.notBusy, h.accepts, h.queue, h.fits, h.noReset⟩

/-- Settles O58: `State.AboutToWrite.ends` in the environment `State.placing`. -/
theorem everyPlacementOfStallsIsPossible : Obligations.EveryPlacementOfStallsIsPossible := by
  intro s cs rest more h
  obtain ⟨t, hlead, hend, hq, htrace⟩ := (h.placing more (cs.map portColour)).ends
  exact ⟨_, t, hlead, hend.fsm_done_or_aborted, hend.1, hq,
    htrace.trans (congrArg (s.trace ++ ·) (s.runStalled_frameStalls_placing more _ _ _ _))⟩

/-! ## Length, edges and requests of a frame

What a run whose requests are all granted shows is read off its op list; on the op list it is counted bit by bit. -/

/-- A frame's op list is that of its bits, and the latch. -/
theorem frameOps_eq (cal : Nat) (cs : List Colour) :
    frameOps cal cs = (cs.flatMap colourBits).flatMap (bitOps cal) ++ latchOps cal := by
  rw [frameOps, List.flatMap_assoc, funext (colorOps_eq cal)]

theorem length_colourBits (c : Colour) : (colourBits c).length = 24 := rfl

theorem length_frameBits (cs : List Colour) : (cs.flatMap colourBits).length = 24 * cs.length := by
  simp [List.length_flatMap, length_colourBits, Nat.mul_comm]

/-- Settles O30: the op list of the last bit ends with its third phase. -/
theorem latchFollowsTheLastBit : Obligations.LatchFollowsTheLastBit := by
  intro cal cs hne
  have hbits : cs.flatMap colourBits ≠ [] := by
    rw [← List.length_pos_iff, length_frameBits]
    have := List.length_pos_iff.mpr hne
    omega
  obtain ⟨bits, b, hlast⟩ := List.eq_nil_or_concat (cs.flatMap colourBits) |>.resolve_left hbits
  have hbit : bitOps cal b = phaseOps cal b 1 ++ phaseOps cal b 2 ++ [.drive false, .delay cal] := by cases b <;> rfl
  refine ⟨bits.flatMap (bitOps cal) ++ (phaseOps cal b 1 ++ phaseOps cal b 2), ?_⟩
  rw [frameOps_eq, hlast, List.concat_eq_append, List.flatMap_append, List.flatMap_singleton, hbit, latchOps]
  simp only [List.append_assoc]

/-- The ticks of the holds of an op list. -/
def holdTicks (ops : List MicroOp) : Nat :=
  (ops.map fun
    | .drive _ => 0
    | .delay n => n).sum

/-- How many requests an op list has. -/
def drives (ops : List MicroOp) : Nat :=
  ops.countP fun
    | .drive _ => true
    | .delay _ => false

/-- How many level changes an op list makes from the level `l`. -/
def levelChanges (l : Level) : List MicroOp → Nat
  | [] => 0
  | .drive l' :: ops => (if l' = l then 0 else 1) + levelChanges l' ops
  | .delay _ :: ops => levelChanges l ops

/-! ### From the run to its op list -/

section Granted

variable {ask : Nat → Answer}

theorem length_waveform_runOps (hask : ∀ j, ask j = .ok) (k : Nat) (p : PinLevel) (ops : List MicroOp) :
    (waveform (runOps ask k p ops)).length = holdTicks ops := by
  induction ops generalizing k p with
  | nil => rfl
  | cons op ops ih => cases op <;> simp [hask, ih, holdTicks]

/-- Stall ticks only lengthen the waveform (R175). -/
theorem holdTicks_le_length_waveform (hask : ∀ j, ask j = .ok) (k : Nat) (p : PinLevel) (more : List Nat)
    (ops : List MicroOp) : holdTicks ops ≤ (waveform (runStalled ask k p more ops)).length := by
  rw [← length_waveform_runOps hask k p ops]
  exact ((runOps_sublist ask k p more ops).filterMap _).length_le

theorem requests_runStalled (hask : ∀ j, ask j = .ok) (k : Nat) (p : PinLevel) (more : List Nat)
    (ops : List MicroOp) : requests (runStalled ask k p more ops) = drives ops := by
  induction ops generalizing k p more with
  | nil => rfl
  | cons op ops ih => cases op <;> simp [runStalled, hask, ih, drives]

theorem edges_runStalled (hask : ∀ j, ask j = .ok) (l : Level) (k : Nat) (p : PinLevel) (more : List Nat)
    (ops : List MicroOp) : edges l (runStalled ask k p more ops) = levelChanges l ops := by
  induction ops generalizing l k p more with
  | nil => rfl
  | cons op ops ih => cases op <;> simp [runStalled, hask, ih, edges, levelChanges]

end Granted

/-! ### The op list counted bit by bit -/

theorem holdTicks_append (x y : List MicroOp) : holdTicks (x ++ y) = holdTicks x + holdTicks y := by
  simp [holdTicks]

theorem drives_append (x y : List MicroOp) : drives (x ++ y) = drives x + drives y := List.countP_append

theorem delays_append (x y : List MicroOp) : delays (x ++ y) = delays x + delays y := List.countP_append

theorem holdTicks_bitOps (cal : Nat) (b : Bool) : holdTicks (bitOps cal b) = 3 * cal := by
  cases b <;> simp [bitOps, holdTicks] <;> omega

theorem drives_bitOps (cal : Nat) (b : Bool) : drives (bitOps cal b) = 2 + [b].count false := by
  cases b <;> rfl

theorem delays_bitOps (cal : Nat) (b : Bool) : delays (bitOps cal b) = 3 := by
  cases b <;> rfl

/-- A bit goes up, unless the line is up, and comes down once. -/
theorem levelChanges_bitOps (cal : Nat) (l b : Bool) (ops : List MicroOp) :
    levelChanges l (bitOps cal b ++ ops) = (if l then 1 else 2) + levelChanges false ops := by
  cases l <;> cases b <;> simp [bitOps, levelChanges, ← Nat.add_assoc]

theorem holdTicks_bits (cal : Nat) (bits : List Bool) :
    holdTicks (bits.flatMap (bitOps cal)) = 3 * cal * bits.length := by
  induction bits with
  | nil => rfl
  | cons b bits ih =>
    rw [List.flatMap_cons, holdTicks_append, holdTicks_bitOps, ih, List.length_cons, Nat.mul_succ, Nat.add_comm]

theorem drives_bits (cal : Nat) (bits : List Bool) :
    drives (bits.flatMap (bitOps cal)) = 2 * bits.length + bits.count false := by
  induction bits with
  | nil => rfl
  | cons b bits ih =>
    have hcount : (b :: bits).count false = [b].count false + bits.count false := List.count_append (l₁ := [b])
    rw [List.flatMap_cons, drives_append, drives_bitOps, ih, List.length_cons, hcount]
    omega

theorem delays_bits (cal : Nat) (bits : List Bool) : delays (bits.flatMap (bitOps cal)) = 3 * bits.length := by
  induction bits with
  | nil => rfl
  | cons b bits ih => rw [List.flatMap_cons, delays_append, delays_bitOps, ih, List.length_cons]; omega

theorem levelChanges_bits (cal : Nat) (bits : List Bool) (ops : List MicroOp) :
    levelChanges false (bits.flatMap (bitOps cal) ++ ops) = 2 * bits.length + levelChanges false ops := by
  induction bits with
  | nil => simp
  | cons b bits ih =>
    rw [List.flatMap_cons, List.append_assoc, levelChanges_bitOps, ih, List.length_cons, if_neg Bool.false_ne_true]
    omega

/-! ### A frame -/

theorem holdTicks_frameOps (cal : Nat) (cs : List Colour) : holdTicks (frameOps cal cs) = frameTicks cal cs.length := by
  have hlatch : holdTicks (latchOps cal) = latchIter cal := by simp [holdTicks, latchOps]
  rw [frameOps_eq, holdTicks_append, holdTicks_bits, length_frameBits, hlatch, frameTicks, Config.bitPhases,
    Config.colorBits]
  ring

/-- `frameTicks` with this hardware's constants written out (R172). -/
theorem frameTicks_eq (cal n : Nat) : frameTicks cal n = 72 * cal * n + (6000 * cal + 332) / 333 := by
  rw [frameTicks, latchIter_eq, Config.bitPhases, Config.colorBits]

theorem drives_frameOps (cal : Nat) (cs : List Colour) :
    drives (frameOps cal cs) = 48 * cs.length + zeroBits cs + 1 := by
  have hlatch : drives (latchOps cal) = 1 := rfl
  rw [frameOps_eq, drives_append, drives_bits, length_frameBits, hlatch, zeroBits]
  omega

theorem delays_frameOps (cal : Nat) (cs : List Colour) : delays (frameOps cal cs) = 72 * cs.length + 1 := by
  have hlatch : delays (latchOps cal) = 1 := rfl
  rw [frameOps_eq, delays_append, delays_bits, length_frameBits, hlatch]
  omega

/-- The latch drives a line low that is high only in a frame without colours that starts high. -/
theorem levelChanges_latchOps (cal : Nat) (l : Level) : levelChanges l (latchOps cal) = if l then 1 else 0 := by
  cases l <;> rfl

theorem levelChanges_frameOps_low (cal : Nat) (cs : List Colour) :
    levelChanges false (frameOps cal cs) = 48 * cs.length := by
  rw [frameOps_eq, levelChanges_bits, levelChanges_latchOps, length_frameBits, if_neg Bool.false_ne_true]
  omega

/-- A line that starts high saves the first bit its rise. -/
theorem levelChanges_frameOps_high (cal : Nat) {cs : List Colour} (h : 0 < cs.length) :
    levelChanges true (frameOps cal cs) = 48 * cs.length - 1 := by
  rw [← levelChanges_frameOps_low cal cs, frameOps_eq]
  have hlen := length_frameBits cs
  cases hbits : cs.flatMap colourBits with
  | nil => rw [hbits, List.length_nil] at hlen; omega
  | cons b bits =>
    rw [List.flatMap_cons, List.append_assoc, levelChanges_bitOps, levelChanges_bitOps, if_pos rfl,
      if_neg Bool.false_ne_true]
    omega

/-- Settles O54: the ticks are those of the op list's holds, and the stall ticks. -/
theorem frameLengthInTicks : Obligations.FrameLengthInTicks := by
  intro s cs rest h hok
  obtain ⟨t, hlead, hdone, hq, htrace⟩ := h.ends_done hok
  have hticks : holdTicks (frameOps s.cal.toNat (cs.map portColour)) =
      72 * s.cal.toNat * cs.length + (6000 * s.cal.toNat + 332) / 333 := by
    rw [holdTicks_frameOps, frameTicks_eq, List.length_map]
  refine ⟨t, _, hlead, hdone, htrace, hq, results_runStalled .., ?_, fun hnom => ?_⟩
  · rw [← hticks]; exact holdTicks_le_length_waveform hok ..
  · rw [← hticks, hnom.runStalled_frameStalls, length_waveform_runOps hok]

/-- Settles O55: the level changes are those of the op list, wherever the stall ticks fall. -/
theorem edgesOfAFrame : Obligations.EdgesOfAFrame := by
  intro s cs rest l h hok _
  obtain ⟨t, hlead, hdone, hq, htrace⟩ := h.ends_done hok
  refine ⟨t, _, hlead, hdone, htrace, hq, results_runStalled .., ?_, ?_, ?_⟩ <;> rw [edges_runStalled hok]
  · rintro rfl
    rw [levelChanges_frameOps_low, List.length_map]
  · rintro rfl hpos
    rw [levelChanges_frameOps_high _ (by rwa [List.length_map]), List.length_map]
  · rintro rfl hnil
    rw [List.length_eq_zero_iff.mp hnil]
    exact levelChanges_latchOps _ true

/-- Settles O56: the requests are those of the op list, wherever the stall ticks fall. -/
theorem requestsOfAFrame : Obligations.RequestsOfAFrame := by
  intro s cs rest h hok
  obtain ⟨t, hlead, hdone, hq, htrace⟩ := h.ends_done hok
  refine ⟨t, _, hlead, hdone, htrace, hq, results_runStalled .., ?_, ?_⟩
  · rw [requests_runStalled hok, drives_frameOps, List.length_map]
  · rw [delays_frameOps, List.length_map]

/-! ## What the sequencer's updates change, field by field -/

/-- The acceptance, field by field (R161). -/
theorem State.startFrame_eq (s : State) : s.startFrame =
    { s with
      ci := 0, byi := 0, bi := 0, ph := 1, hold := false, dly := 0, done := false, err := false, busy := true
      fsm := if s.seq = [] then .latching else .emittingColor } := by
  cases hseq : s.seq <;> simp [State.startFrame, State.flagsAccepted, colorAt, hseq]

/-- A granted request and the start of its hold, field by field (R164, R166). -/
theorem State.pinTakes_startHold_eq (s : State) (l : Level) (n : Word) : (s.pinTakes l).startHold n =
    { s with
      pin := .driven l, log := .drive l .ok :: s.log, pinScript := s.pinScript.tail, pinAsked := s.pinAsked + 1
      dly := n, hold := true } := by
  simp only [State.pinTakes, State.asked, State.emit, State.startHold]

/-- An abort, field by field (60_exceptions.md R222). -/
theorem State.raisePinError_eq (s : State) (l : Level) (e : Word) : s.raisePinError l e =
    { s with
      pin := .unknown, errinfo := e, err := true, busy := false, hold := false, dly := 0, fsm := .aborted
      log := .result (.err e) :: .drive l (.err e) :: s.log
      pinScript := s.pinScript.tail, pinAsked := s.pinAsked + 1 } := by
  simp only [State.raisePinError, State.asked, State.emit, State.flagsAborted]

/-- The end of a transmit, field by field (R167). -/
theorem State.finish_eq (s : State) : s.finish =
    { s with hold := false, fsm := .done, done := true, busy := false, log := .result .ok :: s.log } := by
  simp only [State.finish, State.endHold, State.flagsDone, State.emit]

/-! ## A whole latch -/

theorem exec_latch_start {s : State} (hf : s.fsm = .latching) (hh : s.hold = false) :
    exec .latch s = .next (s.driveThen false State.holdLatch) :=
  (State.engineStep_latch hf).symm.trans (State.engineStep_latch_start hf hh)

theorem exec_latch_held {s : State} (hf : s.fsm = .latching) (hh : s.hold = true) :
    exec .latch s = .next (s.holdStep State.finish) :=
  (State.engineStep_latch hf).symm.trans (State.engineStep_held_latch hf hh)

/-- Settles O28: the granted request, and then the hold run to its end. -/
theorem wholeLatchHoldsLowThenDone : Obligations.WholeLatchHoldsLowThenDone := by
  intro s hf hh hok
  have hstart : exec .latch s = .next ((s.pinTakes false).startHold (latchDelay s.cal)) := by
    rw [exec_latch_start hf hh, State.driveThen_ok hok]; rfl
  have hcount : (latchDelay s.cal).toNat = (6000 * s.cal.toNat + 332) / 333 :=
    (latchDelay_toNat s.cal).trans (latchIter_eq _)
  have hhold := repeated_hold (f := exec .latch) (s := (s.pinTakes false).startHold (latchDelay s.cal)) rfl
    (fun _ hh' hf' => exec_latch_held (hf'.trans hf) hh') 0
  rw [State.heldOut, State.startHold_dly, hcount] at hhold
  have hsteps : (6000 * s.cal.toNat + 332) / 333 + 2 = 0 + 1 + (6000 * s.cal.toNat + 332) / 333 + 1 := by omega
  rw [hsteps, repeated_succ hstart, hhold, State.finish_eq, State.pinTakes_startHold_eq]
  rfl

/-! ## Positions only go on -/

/-- The place is that of the position. -/
theorem State.place_congr {s t : State} (hf : t.fsm = s.fsm) (hci : t.ci = s.ci) (hbyi : t.byi = s.byi)
    (hbi : t.bi = s.bi) (hph : t.ph = s.ph) (hh : t.hold = s.hold) : t.place = s.place := by
  simp only [State.place, hf, hci, hbyi, hbi, hph, hh]

theorem State.place_emittingBit {s : State} (hf : s.fsm = .emittingBit) : s.place =
    1 + s.ci.toNat * 1000 + (2 + s.byi.toNat * 100 + s.bi.toNat * 8 + s.ph.toNat * 2 + s.hold.toNat) := by
  simp only [State.place, hf]

/-- Every bit comes before the latch. -/
theorem State.Inv.place_lt_latch {s : State} (h : s.Inv) (hf : s.fsm = .emittingBit) :
    s.place < 1 + 2 ^ 32 * 1000 := by
  have := s.ci.isLt; have := h.byteIndex; have := s.bi.isLt; have := s.ph.isLt; have := s.hold.toNat_le
  rw [State.place_emittingBit hf]
  omega

/-- The end of a hold in a bit leads to a later place, whichever of its five cases it is (R165). -/
theorem State.Inv.place_lt_advance {s : State} (h : s.Inv) (hf : s.fsm = .emittingBit) (hh : s.hold = true) :
    s.place < s.advance.place := by
  have hlatch := h.place_lt_latch hf
  have hbi := s.bi.isLt; have hph := s.ph.isLt; have hbyte := h.byteIndex
  have hs : s.place = 1 + s.ci.toNat * 1000 + (2 + s.byi.toNat * 100 + s.bi.toNat * 8 + s.ph.toNat * 2 + 1) := by
    rw [State.place_emittingBit hf, hh]; rfl
  obtain ⟨hlt, ha⟩ | ⟨-, hlt, ha⟩ | ⟨-, -, hlt, ha⟩ | ⟨-, -, -, hnext, ha⟩ | ⟨-, -, -, -, ha⟩ := s.advance_cases <;>
    rw [ha]
  · have hsucc : (s.ph + 1).toNat = s.ph.toNat + 1 := by bv_omega
    rw [hs]; simp only [State.place, hf, hsucc, Bool.toNat_false]; omega
  · have hsucc : (s.bi + 1).toNat = s.bi.toNat + 1 := by bv_omega
    rw [hs]; simp only [State.place, hf, hsucc, Bool.toNat_false]; omega
  · have hsucc : (s.byi + 1).toNat = s.byi.toNat + 1 := by bv_omega
    rw [hs]; simp only [State.place, hsucc]; omega
  · have hsucc := h.ci_succ_toNat (by rw [hf]; rfl) hnext
    rw [hs]; simp only [State.place, hsucc]; omega
  · exact hlatch.trans_le (by simp [State.place])

/-- An engine step goes to a later place, or is a tick of the hold. -/
theorem EngineAct.place_le {s t : State} (h : EngineAct s t) (hinv : s.Inv) :
    s.place < t.place ∨ (s.place = t.place ∧ t.dly.toNat + 1 = s.dly.toNat) := by
  cases h with
  | color c hf hc => left; simp only [State.place, hf]; omega
  | byte y hf hy => left; simp [State.place, hf]; omega
  | tick hf hh hd => exact .inr ⟨(State.place_congr rfl rfl rfl rfl rfl rfl).symm, dly_pred hd⟩
  | advance hf hh hd => exact .inl (hinv.place_lt_advance hf hh)
  | finish hf hh hd => left; simp [State.place, hf, hh]
  | hold hf hh => left; simp [State.place, hf, hh]
  | drive l n hn hh ha => left; obtain ⟨hf, -⟩ | ⟨hf, -⟩ := hn <;> simp [State.place, hf, hh]
  | abort l e hf hh ha =>
    left
    obtain hf | hf := hf
    · exact (hinv.place_lt_latch hf).trans (by simp [State.place])
    · simp [State.place, hf, hh]

/-- Settles O48: an engine step by `EngineAct.place_le`; a stall tick leaves the position and uses itself up. -/
theorem positionNeverMovesBack : Obligations.PositionNeverMovesBack := by
  intro s t hinv hb hr hstep
  obtain ⟨hr', -⟩ | ⟨-, -, hdue, rfl⟩ | ⟨-, -, hdue, hmove⟩ | ⟨-, hb', -⟩ := step_cases hstep
  · rw [hr] at hr'; cases hr'
  · have hplace : s.countReset.stallTick.place = s.place := by apply State.place_congr <;> simp
    have hless := State.stallDue_stallTick (s := s.countReset) (by simpa using hdue)
    exact .inr ⟨hplace.symm, .inr ⟨by simpa using hless, by simp⟩⟩
  · have hplace : s.countReset.stallSpent.place = s.place := by apply State.place_congr <;> simp
    have hnext := hmove.act.place_le hinv.countReset.stallSpent
    rw [hplace] at hnext
    exact hnext.imp_right fun ⟨heq, hless⟩ => ⟨heq, .inl ⟨hdue, by simpa using hless⟩⟩
  · rw [hb] at hb'; cases hb'

/-! ## The sequencer's operations, step by step -/

/-- Settles O13: `FSM` decides, and the sequence fits. -/
theorem writeStartsAFrameOrIsRefused : Obligations.WriteStartsAFrameOrIsRefused := by
  intro s
  have hexec : exec .write s = execWrite s := rfl
  rw [← Fsm.acceptsWrite_iff, hexec, execWrite]
  refine ⟨fun hf hfits => ?_, fun hf => ?_⟩
  · rw [if_pos hf, if_pos hfits, State.startFrame_eq]
  · rw [if_neg hf]; rfl

section Bit

variable {i : Instr} {b : Bool} {s : State}

/-- Where a phase is not held, the step of a bit under each of its names is the phase action. -/
theorem exec_bit_phase (hi : i = .emitBit b ∨ (i = .bit0 ∧ b = false) ∨ (i = .bit1 ∧ b = true))
    (hf : s.fsm = .emittingBit) (hh : s.hold = false) : exec i s = s.phaseAction b := by
  simp [exec_eq_bitStep hi, State.bitStep, hf, hh]

/-- Where it is held, it is a step of the hold. -/
theorem exec_bit_held (hi : i = .emitBit b ∨ (i = .bit0 ∧ b = false) ∨ (i = .bit1 ∧ b = true))
    (hf : s.fsm = .emittingBit) (hh : s.hold = true) : exec i s = .next (s.holdStep State.advance) := by
  simp [exec_eq_bitStep hi, State.bitStep, hf, hh]

end Bit

/-- Settles O19: the phase action, by the phase and the bit. -/
theorem bitPhaseActionThenHold : Obligations.BitPhaseActionThenHold := by
  intro i b s hi hf hh
  have hgranted (l : Level) (hok : s.answerAt 0 = .ok) :
      s.driveThen l State.holdPhase = (s.pinTakes l).startHold (phaseDelay s.cal) := State.driveThen_ok hok
  rw [exec_bit_phase hi hf hh]
  refine ⟨fun hph hok => ?_, fun hph hb => ?_, fun hph hok => ?_⟩
  · rw [State.phaseAction_drive (.inl ⟨hph, rfl⟩), hgranted true hok, State.pinTakes_startHold_eq, phaseDelay]
  · rw [State.phaseAction_keep hph hb]; rfl
  · rw [State.phaseAction_drive (.inr ⟨hph, rfl⟩), hgranted false hok, State.pinTakes_startHold_eq, phaseDelay]

/-- Settles O20: the phases that ask ask for high in the first and for low in the others. -/
theorem bitPhaseFailureAborts : Obligations.BitPhaseFailureAborts := by
  intro i b s e hi hf hh hph herr
  have hlevel : s.ph = 1 ∧ (s.ph == 1) = true ∨ (s.ph = 2 ∧ b = false ∨ s.ph = 3) ∧ (s.ph == 1) = false := by
    obtain h | ⟨h, hb⟩ | h := hph
    · exact .inl ⟨h, by simp [h]⟩
    · exact .inr ⟨.inl ⟨h, hb⟩, by simp [h]⟩
    · exact .inr ⟨.inr h, by simp [h]⟩
  rw [exec_bit_phase hi hf hh, State.phaseAction_drive hlevel, State.driveThen_err herr, State.raisePinError_eq]

/-- Settles O21: a step of the hold with a count that is not 0. -/
theorem bitHoldTicks : Obligations.BitHoldTicks := by
  intro i b s hi hf hh hd
  rw [exec_bit_held hi hf hh, State.holdStep_tick hd]; rfl

/-- Settles O22: the branches of `State.advance`. -/
theorem bitHoldEndAdvances : Obligations.BitHoldEndAdvances := by
  intro i b s hi hf hh hd
  rw [exec_bit_held hi hf hh, State.holdStep_end hd, State.advance]
  refine ⟨fun hph => ?_, fun hph hbi => ?_, fun hph hbi hbyi => ?_, fun hph hbi hbyi hci => ?_,
    fun hph hbi hbyi hci => ?_⟩
  · rw [if_pos hph]; rfl
  · rw [if_neg (by simp [hph]), if_pos hbi]; rfl
  · rw [if_neg (by simp [hph]), if_neg (by simp [hbi]), if_pos hbyi]; rfl
  · rw [if_neg (by simp [hph]), if_neg (by simp [hbi]), if_neg (by omega), if_pos ((colorAt_isSome ..).mpr hci)]; rfl
  · rw [if_neg (by simp [hph]), if_neg (by simp [hbi]), if_neg (by omega), if_neg (by rw [colorAt_isSome]; omega)]; rfl

/-- Settles O26: the guards on `FSM` hold. -/
theorem emitColorAndEmitByteLoad : Obligations.EmitColorAndEmitByteLoad :=
  ⟨fun _ _ hf => if_pos hf, fun _ _ hf => if_pos hf⟩

/-- Settles O27: the request by its answer, and the hold by `DLY`. -/
theorem latchStepByStep : Obligations.LatchStepByStep := by
  intro s hf
  refine ⟨by rw [latchOps, latchIter_eq], fun hh hok => ?_, fun e hh herr => ?_, fun hh hd => ?_, fun hh hd => ?_⟩
  · have hgranted : s.driveThen false State.holdLatch = (s.pinTakes false).startHold (latchDelay s.cal) :=
      State.driveThen_ok hok
    rw [exec_latch_start hf hh, hgranted, State.pinTakes_startHold_eq, latchDelay, latchIter_eq]
  · rw [exec_latch_start hf hh, State.driveThen_err herr, State.raisePinError_eq]
  · rw [exec_latch_held hf hh, State.holdStep_tick hd]; rfl
  · rw [exec_latch_held hf hh, State.holdStep_end hd, State.finish_eq]

/-! ## The operation at a position, and steps without one -/

/-- In `EmittingByte` the word is the byte that `BYI` selects (R163). -/
theorem State.fetch_byte {s : State} {y : Byte} (hf : s.fsm = .emittingByte) (hy : sel s.color s.byi = some y) :
    s.fetch = .word .B y.toNat := by
  simp only [State.fetch, hf, hy]

/-- Settles O31: the word of each position, a colour and its bytes as numbers. -/
theorem positionSaysTheOperation : Obligations.PositionSaysTheOperation := by
  intro s
  refine ⟨fun v hf hv => ?_, fun hf hbyi => ?_, fun hf hbyi => ?_, fun hf hbyi => ?_, fun hf => ?_, fun hf => ?_⟩
  · simp only [State.fetch, hf, colorAt, hv, Option.map_some, portColour, BitVec.toNat_setWidth]
  · rw [State.fetch_byte hf (y := s.color.extractLsb' 8 8) (by rw [hbyi]; rfl), BitVec.extractLsb'_toNat,
      Nat.shiftRight_eq_div_pow]
  · have := s.color.isLt
    rw [State.fetch_byte hf (y := s.color.extractLsb' 16 8) (by rw [hbyi]; rfl), BitVec.extractLsb'_toNat,
      Nat.shiftRight_eq_div_pow, Nat.mod_eq_of_lt (by omega)]
  · rw [State.fetch_byte hf (y := s.color.extractLsb' 0 8) (by rw [hbyi]; rfl), BitVec.extractLsb'_toNat,
      Nat.shiftRight_zero]
  · simp only [State.fetch, hf]; rfl
  · simp only [State.fetch, hf]

/-- A stall tick touches the trace and the environment's own fields alone (R175). -/
theorem State.stallTick_eq (s : State) : s.stallTick =
    { s with log := .tick s.pin :: s.log, stalls := s.stallTick.stalls, stallDraws := s.stallTick.stallDraws } := by
  unfold State.stallTick
  split <;> rfl

/-- Settles O34: the step is a stall tick, and one nearer to the reset input's event. -/
theorem stallStepOnlyTakesTime : Obligations.StallStepOnlyTakesTime := by
  intro s hr hb hdue
  have hless := State.stallDue_stallTick (s := s.countReset) (by simpa using hdue)
  refine ⟨_, step_stall hr hb hdue, by simpa using hless, ?_⟩
  rw [State.stallTick_eq]
  unfold State.countReset
  split <;> rfl

/-- Settles O38: with no reset to come and nothing in its queue the host does nothing. -/
theorem idleEngineWaits : Obligations.IdleEngineWaits := by
  intro s hb hq hresets
  have hr : s.resetDue = false := by simp [State.resetDue, hresets]
  rw [step_host hr hb, State.countReset_of_resets_nil hresets, State.hostStep, hq]

end Sys2Proof.Machine

/-! PROOFS. 43_host_operations.md: the one `Result` that ends a `WRITE` (R196) and the whole of `WRITE []` (R202), the
calibration arithmetic (R192, R193, R200), the construction (R190, R191, R194), that `CAL` stays as constructed (R199), and
what is refused or not taken at all (R198). -/

namespace Sys2Proof.Machine

/-! ## The `Result` of a `WRITE` -/

/-- A `Result` is an event, so the last one since `old` is the newest in the log. -/
theorem State.getLast?_eq_of_trace_eq {t : State} {old events : List Event} (htrace : t.trace = old ++ events)
    (hone : results events = 1) : events.getLast? = t.log.head? := by
  have hne : events ≠ [] := by rintro rfl; cases hone
  rw [← List.getLast?_reverse, ← State.trace, htrace, List.getLast?_append_of_ne_nil _ hne]

/-- Settles O52: `State.AboutToWrite.ends` leads to the end of the transmit, whose newest event is its `Result`; that it is
the only one is `results_runStalled`. -/
theorem everyWriteEndsWithOneResult : Obligations.EveryWriteEndsWithOneResult := by
  intro s cs rest h
  obtain ⟨t, hlead, ⟨hbusy, hend⟩, hq, htrace⟩ := h.ends
  refine ⟨t, _, hlead, hbusy, hq, htrace, results_runStalled .., ?_⟩
  rwa [State.getLast?_eq_of_trace_eq htrace (results_runStalled ..)]

/-! ## The latch of an empty frame -/

/-- With no stall to come the engine's next step has no tick before it, and no choice is used up. -/
theorem State.Nominal.stalled_eq {s : State} (h : s.Nominal) : s.stalled = s := by
  obtain ⟨hfree, hstalls⟩ := h
  have hdue : s.stallDue = 0 := by simp [State.stallDue, hfree, hstalls]
  rw [State.stalled_of_stallDue_eq_zero hdue]
  simp [State.stallSpent, hfree, hstalls]

/-- In the nominal environment an engine step is a step of the whole. -/
theorem State.Sending.leads_of_nominal {s t u : State} (hs : s.Sending) (hnom : s.Nominal)
    (hstep : s.engineStep = .next t) (htu : Leads t u) : Leads s u :=
  hs.leads (by rwa [hnom.stalled_eq]) htu

/-- The hold of the latch runs out, and the transmit is over (R166, R167). -/
theorem State.Sending.leads_latch_end {s : State} (hs : s.Sending) (hnom : s.Nominal) (hf : s.fsm = .latching)
    (hh : s.hold = true) : Leads s s.heldOut.finish := by
  induction hn : s.dly.toNat generalizing s with
  | zero =>
    have hd : s.dly = 0 := BitVec.eq_of_toNat_eq hn
    rw [State.heldOut_of_dly_zero hd]
    exact hs.leads_of_nominal hnom (State.engineStep_latch_end hf hh hd) ⟨0, rfl⟩
  | succ n ih =>
    have hd : s.dly ≠ 0 := by rintro hd; simp [hd] at hn
    have hstep : s.engineStep = .next s.tick := by rw [State.engineStep_held_latch hf hh, State.holdStep_tick hd]
    have hleft : s.tick.dly.toNat = n := by have := dly_pred hd; rw [State.tick_dly]; omega
    rw [← State.heldOut_tick hd]
    exact hs.leads_of_nominal hnom hstep (ih (s := s.tick) hs hnom hf hh hleft)

/-- Where the latch leads whose request is granted: low for the whole of its hold, and then `Done` (R166, R167). -/
theorem State.Sending.leads_latch {s : State} (hs : s.Sending) (hnom : s.Nominal) (hf : s.fsm = .latching)
    (hh : s.hold = false) (hok : s.answerAt 0 = .ok) :
    Leads s ((s.pinTakes false).startHold (latchDelay s.cal)).heldOut.finish := by
  have hstart : s.engineStep = .next ((s.pinTakes false).startHold (latchDelay s.cal)) := by
    rw [State.engineStep_latch_start hf hh, State.driveThen_ok hok]; rfl
  exact hs.leads_of_nominal hnom hstart ((hs.pinTakes_startHold false _).leads_latch_end hnom hf rfl)

/-- Settles O53: the frame that starts is at its latch, and `State.Sending.leads_latch` is the rest of it. -/
theorem emptyFrameIsTheLatchAlone : Obligations.EmptyFrameIsTheLatchAlone := by
  intro s rest h hnom hok
  have hlatch := State.Sending.leads_latch (s := (s.takeCommand rest []).startFrame) ⟨rfl, rfl, rfl, h.noReset⟩ hnom
    rfl rfl hok
  have hticks : (latchDelay s.cal).toNat = (6000 * s.cal.toNat + 332) / 333 :=
    (latchDelay_toNat s.cal).trans (latchIter_eq _)
  refine ⟨_, .of_step h.step_eq hlatch, rfl, rfl, rfl, rfl, ?_⟩
  rw [← hticks]
  simp [State.trace, State.heldOut]

/-! ## The calibration arithmetic -/

/-- `iter_from_mhz` with this hardware's constants written out (R192). -/
theorem iterFromMhz_eq (f : Nat) : iterFromMhz f = (333 * f + 2000) / 4000 := rfl

theorem iterFromPs_eq {p : Nat} (hp : 0 < p) : iterFromPs p = some ((333000 + p / 2) / p) := if_neg hp.ne'

/-- Settles O7: the formulas are the definitions with their constants, and give the listed values. -/
theorem calibrationFormulas : Obligations.CalibrationFormulas :=
  ⟨iterFromMhz_eq, fun _ _ => rfl, fun _ => iterFromPs_eq, rfl, by decide, by decide, by decide, by decide⟩

/-- Rounding to nearest, halves up: the count is above `k` from half an iteration above `k` on (R192). -/
theorem lt_iterFromMhzAt_iff {cpl : Nat} (hcpl : 0 < cpl) (f k : Nat) :
    k < iterFromMhzAt cpl f ↔ (2 * k + 1) * (500 * cpl) ≤ 333 * f := by
  have hhalf : (k + 1) * (1000 * cpl) = (2 * k + 1) * (500 * cpl) + 500 * cpl := by ring
  rw [iterFromMhzAt, Config.phaseNs, Nat.lt_iff_add_one_le, Nat.le_div_iff_mul_le (by omega), hhalf,
    Nat.add_le_add_iff_right]

/-- The same for `iter_from_ps` (R193). -/
theorem lt_iterFromPs_iff {p n : Nat} (h : iterFromPs p = some n) (k : Nat) :
    k < n ↔ k * p + (p + 1) / 2 ≤ 333000 := by
  have hp : 0 < p := Nat.pos_of_ne_zero fun h0 => by simp [iterFromPs, h0] at h
  rw [iterFromPs_eq hp, Option.some.injEq] at h
  rw [← h, Nat.lt_iff_add_one_le, Nat.le_div_iff_mul_le hp, Nat.succ_mul]
  omega

/-- Settles O9: in the bounds of `lt_iterFromMhzAt_iff` and `lt_iterFromPs_iff` a larger `CPL` or `p` leaves fewer
counts below. -/
theorem calibrationIsMonotone : Obligations.CalibrationIsMonotone := by
  refine ⟨fun cpl f g hfg => ?_, fun cpl cpl' f hpos hle => ?_, fun p q m n hpq hm hn => ?_⟩
  · exact Nat.div_le_div_right (Nat.add_le_add_right (Nat.mul_le_mul_left _ hfg) _)
  · refine le_of_forall_lt fun k hk => ?_
    rw [lt_iterFromMhzAt_iff (hpos.trans_le hle)] at hk
    rw [lt_iterFromMhzAt_iff hpos]
    exact (Nat.mul_le_mul_left _ (Nat.mul_le_mul_left _ hle)).trans hk
  · refine le_of_forall_lt fun k hk => ?_
    rw [lt_iterFromPs_iff hn] at hk
    rw [lt_iterFromPs_iff hm]
    have := Nat.mul_le_mul_left k hpq
    omega

/-! ## Construction -/

/-- In `Unconstructed` a count is taken (R190). -/
theorem State.construct_of_unconstructed {s : State} (hf : s.fsm = .unconstructed) (n : Nat) :
    s.construct n = { s with cal := BitVec.ofNat 16 n, fsm := .idle, constructed := true } := if_pos hf

/-- Elsewhere it is refused (R198 b). -/
theorem State.construct_of_constructed {s : State} (hf : s.fsm ≠ .unconstructed) (n : Nat) :
    s.construct n = s.refuse := if_neg hf

/-- Every construction is of one count: as it stands, from a frequency, or the default (R190, R191, R194). -/
theorem exec_newIter (n : Nat) (s : State) : exec (.newIter n) s = .next (s.construct n) := rfl

theorem exec_newMhz (f : Nat) (s : State) : exec (.newMhz f) s = .next (s.construct ((333 * f + 2000) / 4000)) := rfl

theorem exec_newDefault (s : State) : exec .newDefault s = .next (s.construct 50) := rfl

/-- Settles O10: construction is accepted or refused by `FSM`. -/
theorem newIterConstructsOrIsRefused : Obligations.NewIterConstructsOrIsRefused := by
  intro n s hn
  rw [exec_newIter]
  refine ⟨?_, Nat.mod_eq_of_lt hn, fun hf => ?_, fun hf => ?_⟩
  · simp only [encode, commandWord]; omega
  · rw [State.construct_of_unconstructed hf]
  · rw [State.construct_of_constructed hf]; rfl

/-- Settles O11: a 16-bit frequency gives a count of 16 bits, and the rest is `NEW_ITER`'s. -/
theorem newMhzConstructsOrIsRefused : Obligations.NewMhzConstructsOrIsRefused := by
  intro f s hf16
  have hcount : (333 * f + 2000) / 4000 < 2 ^ 16 := by omega
  rw [exec_newMhz, exec_newIter]
  refine ⟨?_, Nat.mod_eq_of_lt hcount, rfl, fun hf => ?_, fun hf => ?_⟩
  · simp only [encode, commandWord]; omega
  · rw [State.construct_of_unconstructed hf]
  · rw [State.construct_of_constructed hf]; rfl

/-- Settles O12: `NEW_DEFAULT` constructs with the count that 600 MHz gives. -/
theorem newDefaultConstructsOrIsRefused : Obligations.NewDefaultConstructsOrIsRefused := by
  intro s
  rw [exec_newDefault, exec_newIter, exec_newMhz]
  refine ⟨rfl, rfl, rfl, fun hf => ?_, fun hf => ?_⟩
  · rw [State.construct_of_unconstructed hf]; rfl
  · rw [State.construct_of_constructed hf]; rfl

/-! ## `CAL` stays as constructed -/

/-- `t` is still constructed, with the calibration of `s`. -/
def State.StaysCalibrated (s t : State) : Prop := t.cal = s.cal ∧ t.fsm ≠ .unconstructed

theorem State.startFrame_fsm_ne_unconstructed (s : State) : s.startFrame.fsm ≠ .unconstructed := by
  rw [State.startFrame_eq]
  cases s.seq <;> simp

/-- No position of a transmit leads to `Unconstructed` (42_frame_sequencer.md R162 to R167). -/
theorem EngineAct.fsm_ne_unconstructed {s t : State} (h : EngineAct s t) (hs : s.fsm ≠ .unconstructed) :
    t.fsm ≠ .unconstructed := by
  cases h with
  | color | byte | finish | abort => exact nofun
  | tick | hold | drive => exact hs
  | advance hf hh hd =>
    obtain ⟨-, h⟩ | ⟨-, -, h⟩ | ⟨-, -, -, h⟩ | ⟨-, -, -, -, h⟩ | ⟨-, -, -, -, h⟩ := s.advance_cases <;>
      simp [h, hf]

theorem EngineMove.staysCalibrated {s t : State} (h : EngineMove s t) (hs : s.fsm ≠ .unconstructed) :
    s.StaysCalibrated t :=
  ⟨h.sameHostSide.cal, h.act.fsm_ne_unconstructed hs⟩

/-- Of the host's moves only a reset undoes the construction (R199, R201). -/
theorem HostMove.staysCalibrated_or_reset {s t : State} (h : HostMove s t) (hs : s.fsm ≠ .unconstructed) :
    s.StaysCalibrated t ∨ (s.hostQueue.head? = some .reset ∧ t.fsm = .unconstructed) := by
  cases h with
  | wait hq => exact .inl ⟨rfl, hs⟩
  | reset rest hq => exact .inr ⟨by rw [hq]; rfl, rfl⟩
  | command w cs rest hq n =>
    rw [State.construct_of_constructed (s := s.takeCommand rest cs) hs]
    exact .inl ⟨rfl, hs⟩
  | write w cs rest hq _ hw =>
    obtain ⟨-, -, rfl⟩ | ⟨-, rfl⟩ := execWrite_next hw
    · exact .inl ⟨rfl, State.startFrame_fsm_ne_unconstructed _⟩
    · exact .inl ⟨rfl, hs⟩
  | illegal w cs rest hq => exact .inl ⟨rfl, hs⟩

/-- What a step can do to the calibration: a reset of either kind, or nothing. -/
theorem step_staysCalibrated_or_reset {s t : State} (h : step s = .next t) (hs : s.fsm ≠ .unconstructed) :
    s.StaysCalibrated t ∨
    ((s.resetDue = true ∨ (s.busy = false ∧ s.hostQueue.head? = some .reset)) ∧ t.fsm = .unconstructed) := by
  obtain ⟨hr, rfl⟩ | ⟨-, -, -, rfl⟩ | ⟨-, -, -, hmove⟩ | ⟨-, hb, hmove⟩ := step_cases h
  · exact .inr ⟨.inl hr, rfl⟩
  · exact .inl ⟨by simp, by simpa using hs⟩
  · exact .inl (by simpa [State.StaysCalibrated] using hmove.staysCalibrated (by simpa using hs))
  · obtain hstays | ⟨hreset, hf⟩ := hmove.staysCalibrated_or_reset (by simpa using hs)
    · exact .inl (by simpa [State.StaysCalibrated] using hstays)
    · exact .inr ⟨.inr ⟨hb, by simpa using hreset⟩, hf⟩

/-- Settles O43: a step by `step_staysCalibrated_or_reset`; a further construction is refused by `FSM`. -/
theorem calibrationNeverChanges : Obligations.CalibrationNeverChanges := by
  refine ⟨fun s t hs h => ?_, fun s n hs => ?_⟩
  · obtain ⟨hcal, hf⟩ | ⟨hreset, hf⟩ := step_staysCalibrated_or_reset h hs
    · exact ⟨fun _ => hcal, fun hf' => absurd hf' hf⟩
    · exact ⟨fun hf' => absurd hf hf', fun _ => hreset⟩
  · rw [exec_newIter, exec_newMhz, State.construct_of_constructed hs, State.construct_of_constructed hs]
    exact ⟨rfl, rfl⟩

/-! ## What is not taken from the host -/

/-- Settles O37: of the steps of a busy engine only a reset changes anything on the host's side. -/
theorem portClosedWhileBusy : Obligations.PortClosedWhileBusy := by
  intro s t hb h
  obtain ⟨hr, rfl⟩ | ⟨-, -, -, rfl⟩ | ⟨-, -, -, hmove⟩ | ⟨-, hb', -⟩ := step_cases h
  · exact ⟨rfl, fun hr' => nomatch hr.symm.trans hr'⟩
  · simp
  · have hside := hmove.sameHostSide
    simp [hside.hostQueue, hside.cmderr, hside.seq]
  · exact nomatch hb.symm.trans hb'

/-- Settles O14: `WRITE` is accepted by `FSM`, and then asks for the length. -/
theorem tooLongStreamIsRefused : Obligations.TooLongStreamIsRefused := by
  intro s hf hlong
  have hexec : exec .write s = execWrite s := rfl
  rw [hexec, execWrite, if_pos ((Fsm.acceptsWrite_iff _).mpr hf), if_neg hlong.not_gt]

end Sys2Proof.Machine

/-! PROOFS. 60_exceptions.md: `Aborted` is entered by a failing `PinSet` alone (R221, R222), so never with an infallible
pin (R227). -/

namespace Sys2Proof.Machine

/-! ## What enters `Aborted` -/

/-- No abort on the way from `s` to `t`: `t` is not `Aborted`, and no `ERR` is set that was not. -/
def State.NoAbort (s t : State) : Prop := t.fsm ≠ .aborted ∧ (t.err = true → s.err = true)

theorem State.startFrame_fsm_ne_aborted (s : State) : s.startFrame.fsm ≠ .aborted := by
  rw [State.startFrame_eq]
  cases s.seq <;> simp

/-- No case of R165 leads out of the frame. -/
theorem State.noAbort_advance {s : State} (hf : s.fsm = .emittingBit) : s.NoAbort s.advance := by
  obtain ⟨-, h⟩ | ⟨-, -, h⟩ | ⟨-, -, -, h⟩ | ⟨-, -, -, -, h⟩ | ⟨-, -, -, -, h⟩ := s.advance_cases <;>
    simp [State.NoAbort, h, hf]

/-- Of what a busy engine does only a request that fails is an abort (R221). -/
theorem EngineAct.noAbort_or_abort {s t : State} (h : EngineAct s t) :
    s.NoAbort t ∨
    ((s.fsm = .emittingBit ∨ s.fsm = .latching) ∧ ∃ l e, s.answerAt 0 = .err e ∧ t = s.raisePinError l e) := by
  cases h with
  | color | byte | finish => exact .inl ⟨nofun, id⟩
  | tick hf hh hd => exact .inl ⟨by obtain hf | hf := hf <;> simp [hf], id⟩
  | advance hf hh hd => exact .inl (State.noAbort_advance hf)
  | hold hf hh => exact .inl ⟨by simp [hf], id⟩
  | drive l n hn hh ha => exact .inl ⟨by obtain ⟨hf, -⟩ | ⟨hf, -⟩ := hn <;> simp [hf], id⟩
  | abort l e hf hh ha => exact .inr ⟨hf, l, e, ha, rfl⟩

/-- A move of the host is no abort: an accepted `WRITE` clears `ERR`, a refusal sets `CMDERR` alone (R161, R198). -/
theorem HostMove.noAbort {s t : State} (h : HostMove s t) (hs : s.fsm ≠ .aborted) : s.NoAbort t := by
  cases h with
  | wait hq => exact ⟨hs, id⟩
  | reset rest hq => exact ⟨nofun, nofun⟩
  | command w cs rest hq n =>
    obtain ⟨-, h⟩ | ⟨-, h⟩ := (s.takeCommand rest cs).construct_cases n <;> rw [h]
    · exact ⟨nofun, id⟩
    · exact ⟨hs, id⟩
  | write w cs rest hq _ hw =>
    obtain ⟨-, -, rfl⟩ | ⟨-, rfl⟩ := execWrite_next hw
    · exact ⟨State.startFrame_fsm_ne_aborted _, nofun⟩
    · exact ⟨hs, id⟩
  | illegal w cs rest hq => exact ⟨hs, id⟩

/-- A step is no abort, or it is the abort of a busy engine whose `PinSet` answered `Err(e)` (R221, R222). -/
theorem step_noAbort_or_abort {s t : State} (h : step s = .next t) (hs : s.fsm ≠ .aborted) :
    s.NoAbort t ∨
    (s.busy = true ∧ (s.fsm = .emittingBit ∨ s.fsm = .latching) ∧
      ∃ l e, s.answerAt 0 = .err e ∧ t = s.countReset.stallSpent.raisePinError l e) := by
  obtain ⟨-, rfl⟩ | ⟨-, -, -, rfl⟩ | ⟨-, hb, -, hmove⟩ | ⟨-, -, hmove⟩ := step_cases h
  · exact .inl ⟨nofun, nofun⟩
  · exact .inl ⟨by simpa using hs, by simp⟩
  · simpa [State.NoAbort, hb] using hmove.act.noAbort_or_abort
  · exact .inl (by simpa [State.NoAbort] using hmove.noAbort (by simpa using hs))

/-- Settles O46: such a step is the abort, whose fields are those of `State.raisePinError`. -/
theorem abortOnlyByThePin : Obligations.AbortOnlyByThePin := by
  intro s t hs h ht
  obtain ⟨hf, -⟩ | ⟨hb, hpos, l, e, ha, rfl⟩ := step_noAbort_or_abort h hs
  · exact absurd ht hf
  · exact ⟨hb, hpos, l, e, ha, by simp⟩

/-! ## The infallible pin -/

theorem HostMove.pinFallible_eq {s t : State} (h : HostMove s t) : t.pinFallible = s.pinFallible := by
  cases h with
  | wait | reset | illegal => rfl
  | command w cs rest hq n =>
    obtain ⟨-, h⟩ | ⟨-, h⟩ := (s.takeCommand rest cs).construct_cases n <;> rw [h] <;> rfl
  | write w cs rest hq _ hw => obtain ⟨-, -, rfl⟩ | ⟨-, rfl⟩ := execWrite_next hw <;> rfl

/-- Whether the pin can fail is not the engine's to change: every step, a reset too, leaves it. -/
theorem step_pinFallible_eq {s t : State} (h : step s = .next t) : t.pinFallible = s.pinFallible := by
  obtain ⟨-, rfl⟩ | ⟨-, -, -, rfl⟩ | ⟨-, -, -, hmove⟩ | ⟨-, -, hmove⟩ := step_cases h
  · rfl
  · simp
  · simpa using hmove.sameHostSide.pinFallible
  · simpa using hmove.pinFallible_eq

/-- Settles O47: an infallible pin answers no `Err`, so `step_noAbort_or_abort` leaves the steps that are no abort. -/
theorem infalliblePinNeverAborts : Obligations.InfalliblePinNeverAborts := by
  intro s t hpin herr hs h
  obtain ⟨hf, hkeep⟩ | ⟨-, -, l, e, ha, -⟩ := step_noAbort_or_abort h hs
  · exact ⟨(step_pinFallible_eq h).trans hpin, by simpa [herr] using hkeep, hf⟩
  · exact nomatch (State.answerAt_infallible hpin 0).symm.trans ha

end Sys2Proof.Machine

/-! PROOFS. 70_reset_and_hazards.md: a reset event in any state, made by the reset input or by the host (R250). -/

namespace Sys2Proof.Machine

/-- The host's reset is the reset event on the state with the move taken. -/
theorem State.hostStep_reset {s : State} {rest : List HostAction} (hq : s.hostQueue = .reset :: rest) :
    s.hostStep = .next { s with hostQueue := rest }.resetEvent := by
  simp only [State.hostStep, hq]

/-- Either way of reset makes the step a reset event, which leaves the log as it is: the reset input comes first, so it
may also fire in the step in which the host would reset. -/
theorem step_eq_resetEvent {s : State}
    (h : s.resetDue = true ∨ (s.busy = false ∧ ∃ rest, s.hostQueue = .reset :: rest)) :
    ∃ u : State, step s = .next u.resetEvent ∧ u.log = s.log := by
  cases hr : s.resetDue with
  | true => exact ⟨_, step_reset hr, rfl⟩
  | false =>
    obtain ⟨hb, rest, hq⟩ := h.resolve_left (by simp [hr])
    have hqueue : s.countReset.hostQueue = .reset :: rest := s.countReset_hostQueue.trans hq
    exact ⟨_, (step_host hr hb).trans (State.hostStep_reset hqueue), s.countReset_log⟩

/-- Settles O35: the step is a reset event, whose registers are those of `State.reset`, the table of R40. -/
theorem resetEventInAnyState : Obligations.ResetEventInAnyState := by
  intro s h
  obtain ⟨u, hstep, hlog⟩ := step_eq_resetEvent h
  exact ⟨u.resetEvent, hstep, by
    simpa [hlog, Obligations.ResetStateHasTheTableValues] using resetStateHasTheTableValues⟩

end Sys2Proof.Machine

/-! PROOFS. 30_encoding.md: the words and their operations (R90 to R100), and what the names of a shared word mean (R143,
R144, R194). -/

namespace Sys2Proof

/-! ## Canonical names -/

/-- The operations that share their word with a row that fixes more of its bits (log 9). -/
theorem Instr.canonical_cases (i : Instr) :
    i.canonical = i ∨ i = .newIter 50 ∨ i = .emitBit false ∨ i = .emitBit true := by
  cases i with
  | newIter n =>
    by_cases hn : n = 50
    · exact .inr (.inl (congrArg Instr.newIter hn))
    · exact .inl (if_neg hn)
  | emitBit b => cases b <;> simp
  | _ => exact .inl rfl

@[simp] theorem Instr.format_canonical (i : Instr) : i.canonical.format = i.format := by
  obtain h | rfl | rfl | rfl := i.canonical_cases
  · rw [h]
  all_goals rfl

@[simp] theorem Instr.canonical_canonical (i : Instr) : i.canonical.canonical = i.canonical := by
  obtain h | rfl | rfl | rfl := i.canonical_cases
  · rw [h, h]
  all_goals rfl

@[simp] theorem Instr.wellFormed_canonical (i : Instr) : i.canonical.wellFormed = i.wellFormed := by
  obtain h | rfl | rfl | rfl := i.canonical_cases
  · rw [h]
  all_goals rfl

/-- The two rows of a shared word share it. -/
@[simp] theorem encode_canonical (i : Instr) : encode i.canonical = encode i := by
  obtain h | rfl | rfl | rfl := i.canonical_cases
  · rw [h]
  all_goals rfl

/-- The two rows of a shared word have one meaning (R143, R144, R194). -/
theorem Machine.exec_canonical (i : Instr) (s : Machine.State) : Machine.exec i.canonical s = Machine.exec i s := by
  obtain h | rfl | rfl | rfl := i.canonical_cases
  · rw [h]
  all_goals rfl

/-! ## The fields of a command word (R96) -/

@[simp] theorem commandOp_commandWord {op : Nat} (hop : op < 4) (arg : Nat) : commandOp (commandWord op arg) = op := by
  simp only [commandOp, commandWord]; omega

@[simp] theorem commandRsv_commandWord (op arg : Nat) : commandRsv (commandWord op arg) = 0 := by
  simp only [commandRsv, commandWord]; omega

theorem commandArg_commandWord (op : Nat) {arg : Nat} (harg : arg < 2 ^ 16) :
    commandArg (commandWord op arg) = arg := by
  simp only [commandArg, commandWord]; omega

theorem commandWord_lt {op : Nat} (hop : op < 4) (arg : Nat) : commandWord op arg < 2 ^ 32 := by
  simp only [commandWord]; omega

/-- A word with `RSV` zero is made of its `OP` and `ARG`. -/
theorem commandWord_fields {w : Nat} (hw : w < 2 ^ 32) (hrsv : commandRsv w = 0) :
    commandWord (commandOp w) (commandArg w) = w := by
  simp only [commandRsv] at hrsv
  simp only [commandWord, commandOp, commandArg]
  omega

/-! ## Decoding a command word (R99, R100) -/

theorem decode_H {w : Nat} (hw : w < 2 ^ 32) : decode .H w = decodeCommand w := if_neg (Nat.not_le.mpr hw)

/-- What a command word is, by its fields. -/
theorem decodeCommand_cases (w : Nat) :
    (commandOp w = 3 ∧ decodeCommand w = .reject .reservedOp) ∨
    (commandRsv w ≠ 0 ∧ decodeCommand w = .reject .reservedBits) ∨
    (commandOp w = 0 ∧ commandRsv w = 0 ∧ decodeCommand w = .ok (Instr.newIter (commandArg w)).canonical) ∨
    (commandOp w = 1 ∧ commandRsv w = 0 ∧ decodeCommand w = .ok (.newMhz (commandArg w))) ∨
    (commandOp w = 2 ∧ commandRsv w = 0 ∧ commandArg w = 0 ∧ decodeCommand w = .ok .write) ∨
    (commandOp w = 2 ∧ commandArg w ≠ 0 ∧ decodeCommand w = .reject .writeArgument) := by
  have hop : commandOp w < 4 := Nat.mod_lt _ (by decide)
  by_cases h3 : commandOp w = 3
  · simp [decodeCommand, h3]
  by_cases hrsv : commandRsv w = 0
  · obtain h0 | h1 | h2 : commandOp w = 0 ∨ commandOp w = 1 ∨ commandOp w = 2 := by omega
    · by_cases hdefault : commandArg w = 50 <;> simp [decodeCommand, Instr.canonical, hrsv, h0, hdefault]
    · simp [decodeCommand, hrsv, h1]
    · by_cases harg : commandArg w = 0 <;> simp [decodeCommand, hrsv, h2, harg]
  · simp [decodeCommand, h3, hrsv]

/-- The three classes of illegal words (R100). -/
theorem decodeCommand_reject_iff (w : Nat) : (∃ r, decodeCommand w = .reject r) ↔
    commandOp w = 3 ∨ commandRsv w ≠ 0 ∨ (commandOp w = 2 ∧ commandArg w ≠ 0) := by
  obtain ⟨hop, h⟩ | ⟨hrsv, h⟩ | ⟨hop, hrsv, h⟩ | ⟨hop, hrsv, h⟩ | ⟨hop, hrsv, harg, h⟩ | ⟨hop, harg, h⟩ :=
    decodeCommand_cases w <;> simp [*]

theorem decode_newIter {n : Nat} (hn : n < 2 ^ 16) :
    decode .H (commandWord 0 n) = .ok (Instr.newIter n).canonical := by
  rw [decode_H (commandWord_lt (by decide) n)]
  simpa [commandArg_commandWord 0 hn] using decodeCommand_cases (commandWord 0 n)

theorem decode_newMhz {f : Nat} (hf : f < 2 ^ 16) : decode .H (commandWord 1 f) = .ok (.newMhz f) := by
  rw [decode_H (commandWord_lt (by decide) f)]
  simpa [commandArg_commandWord 1 hf] using decodeCommand_cases (commandWord 1 f)

/-- Settles O4: the bit fields of R96 are the numbers the decoder reads. -/
theorem illegalCommandWordsAreThese : Obligations.IllegalCommandWordsAreThese := by
  intro w
  rw [decode_H w.isLt, decodeCommand_reject_iff]
  simp [commandOp, commandRsv, commandArg, BitVec.toNat_eq, Nat.shiftRight_eq_div_pow]

/-! ## From an operation to its word and back -/

theorem decode_delay {n : Nat} (hn : n < 2 ^ 32) : decode .U (n % 2 ^ 32) = .ok (.delay n) := by
  rw [Nat.mod_eq_of_lt hn]
  exact if_neg (Nat.not_le.mpr hn)

/-- Settles O2, operation by operation: no operand of a well-formed operation loses a bit in its word. -/
theorem decodeOfEncodeIsTheOperation : Obligations.DecodeOfEncodeIsTheOperation := by
  intro i hwf
  cases i with
  | newIter n => exact decode_newIter (of_decide_eq_true hwf)
  | newMhz f => exact decode_newMhz (of_decide_eq_true hwf)
  | delay n => exact decode_delay (of_decide_eq_true hwf)
  | emitBit b => exact Machine.decode_symbolWord b
  | bit0 => exact Machine.decode_symbolWord false
  | bit1 => exact Machine.decode_symbolWord true
  | emitByte y => exact Machine.decode_byte y
  | emitColor c => exact Machine.decode_colour c
  | newDefault | write | driveHigh | driveLow | latch => decide

/-- Settles O5: the name a word decodes to is the canonical one (O2), which means the same. -/
theorem otherNamesMeanTheSame : Obligations.OtherNamesMeanTheSame := by
  intro i j s hwf hj
  cases (decodeOfEncodeIsTheOperation i hwf).symm.trans hj
  exact Machine.exec_canonical i s

/-! ## From a word to its operation and back -/

/-- `i` is a well-formed operation with the word `w` in the format `f`, under the word's canonical name. -/
def Instr.IsCanonicalFor (i : Instr) (f : Format) (w : Nat) : Prop :=
  i.format = f ∧ encode i = w ∧ i.wellFormed = true ∧ i.canonical = i

theorem Instr.isCanonicalFor_canonical {i : Instr} {w : Nat} (hword : encode i = w) (hwf : i.wellFormed = true) :
    i.canonical.IsCanonicalFor i.format w :=
  ⟨i.format_canonical, (encode_canonical i).trans hword, i.wellFormed_canonical.trans hwf, i.canonical_canonical⟩

/-- A legal command word has no bits but its `OP` and `ARG`, and these are its operation's (R96). -/
theorem decodeCommand_isCanonicalFor {w : Nat} {i : Instr} (hw : w < 2 ^ 32) (h : decodeCommand w = .ok i) :
    i.IsCanonicalFor .H w := by
  have harg : commandArg w < 2 ^ 16 := Nat.mod_lt _ (by decide)
  obtain ⟨-, hd⟩ | ⟨-, hd⟩ | ⟨hop, hrsv, hd⟩ | ⟨hop, hrsv, hd⟩ | ⟨hop, hrsv, hzero, hd⟩ | ⟨-, -, hd⟩ :=
    decodeCommand_cases w
  all_goals cases hd.symm.trans h
  · exact Instr.isCanonicalFor_canonical (i := .newIter _)
      (by rw [encode, ← hop, commandWord_fields hw hrsv]) (decide_eq_true harg)
  · exact ⟨rfl, by rw [encode, ← hop, commandWord_fields hw hrsv], decide_eq_true harg, rfl⟩
  · exact ⟨rfl, by rw [encode, ← hop, ← hzero, commandWord_fields hw hrsv], rfl, rfl⟩

/-- Settles O3, format by format. -/
theorem encodeOfDecodeIsTheWord : Obligations.EncodeOfDecodeIsTheWord := by
  intro f w i h
  change i.IsCanonicalFor f w
  unfold decode at h
  split at h
  · cases h
  have hw : w < 2 ^ f.width := Nat.not_le.mp ‹_›
  cases f with
  | H => exact decodeCommand_isCanonicalFor hw h
  | P =>
    obtain rfl | rfl : w = 0 ∨ w = 1 := Nat.le_one_iff_eq_zero_or_eq_one.mp (Nat.le_of_lt_succ hw)
    all_goals cases h; exact ⟨rfl, rfl, rfl, rfl⟩
  | U => cases h; exact ⟨rfl, Nat.mod_eq_of_lt hw, decide_eq_true hw, rfl⟩
  | S =>
    simp only [decodeSymbol] at h
    split at h
    · cases h; exact ⟨rfl, ‹w = 4›.symm, rfl, rfl⟩
    split at h
    · cases h; exact ⟨rfl, ‹w = 6›.symm, rfl, rfl⟩
    · cases h
  | B => cases h; exact ⟨rfl, Nat.mod_eq_of_lt hw, rfl, rfl⟩
  | C => cases h; exact ⟨rfl, Nat.mod_eq_of_lt hw, rfl, rfl⟩
  | F =>
    simp only at h
    split at h
    · cases h; exact ⟨rfl, ‹w = 0›.symm, rfl, rfl⟩
    · cases h

/-! ## The words of the spec's tables -/

/-- Settles O1: closed words, each decoded. -/
theorem wordsOfTheSpecDecode : Obligations.WordsOfTheSpecDecode := by
  unfold Obligations.WordsOfTheSpecDecode
  decide

end Sys2Proof

/-! PROOFS. 42_frame_sequencer.md, 10_state.md R42: a busy engine runs the operation at its position. -/

namespace Sys2Proof.Machine

/-- The reset input and the stall environment have no part in what operation is next (R42). -/
theorem State.fetch_stallSpent_countReset (s : State) : s.countReset.stallSpent.fetch = s.fetch := by
  simp [State.fetch]

theorem State.engineStep_of_fetch {s : State} {f : Format} {w : Nat} {i : Instr} (hfetch : s.fetch = .word f w)
    (hdecode : decode f w = .ok i) : s.engineStep = exec i s := by
  simp only [State.engineStep, hfetch, hdecode]

/-- Settles O32: with nothing due the step is the engine's own, at the position it had. -/
theorem engineStepRunsItsOperation : Obligations.EngineStepRunsItsOperation := by
  intro s f w i hreset hbusy hstall hfetch hdecode
  rw [step_engine hreset hbusy hstall]
  exact State.engineStep_of_fetch (s.fetch_stallSpent_countReset.trans hfetch) hdecode

end Sys2Proof.Machine
